-- ==== Sys2Proof/Word.lean ====
section
/-!
DEFINITION. The widths of spec/00_scope.md R11, the three streams of R8 and a triple of like things, one per stream.
-/

namespace Sys2Proof

/-- A byte of guest memory, of a ring buffer or of an 8-bit register. -/
abbrev Byte := BitVec 8

/-- A 16-bit register or port word. -/
abbrev Word := BitVec 16

/-- A 32-bit register or port dword. -/
abbrev Dword := BitVec 32

/-- A guest-physical address (R11): 32 bits, wrapping (R63). -/
abbrev Addr := BitVec 32

/-- The streams of R8 in register order: 0 is PCM In, 1 is PCM Out, 2 is Mic In. -/
inductive StreamId where
  | pi
  | po
  | mc
  deriving DecidableEq, Repr, Inhabited

/-- The stream index `s` of R8. -/
def StreamId.index : StreamId → Nat
  | .pi => 0
  | .po => 1
  | .mc => 2

/-- R19: only stream 1 (PO) moves data out of guest memory. -/
def StreamId.isOut : StreamId → Bool
  | .pi => false
  | .po => true
  | .mc => false

/-- One thing of a kind for each of the three streams (`N_STREAMS` = 3, R8). -/
structure Tri (α : Type) where
  pi : α
  po : α
  mc : α
  deriving DecidableEq, Repr, Inhabited

/-- The stream's own member. -/
def Tri.get {α : Type} (t : Tri α) : StreamId → α
  | .pi => t.pi
  | .po => t.po
  | .mc => t.mc

/-- The triple with the stream's member replaced. -/
def Tri.set {α : Type} (t : Tri α) (k : StreamId) (a : α) : Tri α :=
  match k with
  | .pi => { t with pi := a }
  | .po => { t with po := a }
  | .mc => { t with mc := a }

/-- Little-endian bytes of a word (R60). -/
def Word.bytes (w : Word) : List Byte :=
  [w.extractLsb' 0 8, w.extractLsb' 8 8]

/-- Little-endian bytes of a dword (R60). -/
def Dword.bytes (d : Dword) : List Byte :=
  [d.extractLsb' 0 8, d.extractLsb' 8 8, d.extractLsb' 16 8, d.extractLsb' 24 8]

end Sys2Proof
end

