-- ==== Sys2Proof/Syntax.lean ====
section
/-!
DEFINITION. The port transactions of spec/30_encoding.md, one constructor per row of spec/opcode_table.json.
A write's operand `d` is the data of the access width (R86). `off` is the offset inside the region.
`reg` is offset bits 7:1 of the mixer region, so an even offset is `2 * reg` and an odd one `2 * reg + 1`.
-/

namespace Sys2Proof

/-- A port transaction (R4, R80). -/
inductive Instr where
  /-- `IN32 NABM PI_BDBAR`: R102. -/
  | in32NabmPiBdbar
  /-- `OUT32 NABM PI_BDBAR`: R103. -/
  | out32NabmPiBdbar (d : BitVec 32)
  /-- `IN8 NABM PI_CIV`: R104. -/
  | in8NabmPiCiv
  /-- `OUT8 NABM PI_CIV`: R105. -/
  | out8NabmPiCiv (d : BitVec 8)
  /-- `IN32 NABM PI_CIV (packed SR:LVI:CIV)`: R106. -/
  | in32NabmPiCiv
  /-- `IN8 NABM PI_LVI`: R107. -/
  | in8NabmPiLvi
  /-- `OUT8 NABM PI_LVI`: R108. -/
  | out8NabmPiLvi (d : BitVec 8)
  /-- `IN16 NABM PI_SR`: R109. -/
  | in16NabmPiSr
  /-- `IN8 NABM PI_SR`: R110. -/
  | in8NabmPiSr
  /-- `OUT8 NABM PI_SR`: R110. -/
  | out8NabmPiSr (d : BitVec 8)
  /-- `OUT16 NABM PI_SR`: R116. -/
  | out16NabmPiSr (d : BitVec 16)
  /-- `IN16 NABM PI_PICB`: R120. -/
  | in16NabmPiPicb
  /-- `OUT16 NABM PI_PICB`: R105. -/
  | out16NabmPiPicb (d : BitVec 16)
  /-- `IN32 NABM PI_PICB (packed CR:PIV:PICB)`: R121. -/
  | in32NabmPiPicb
  /-- `IN8 NABM PI_PIV`: R122. -/
  | in8NabmPiPiv
  /-- `OUT8 NABM PI_PIV`: R105. -/
  | out8NabmPiPiv (d : BitVec 8)
  /-- `IN8 NABM PI_CR`: R115. -/
  | in8NabmPiCr
  /-- `OUT8 NABM PI_CR`: R111. -/
  | out8NabmPiCr (d : BitVec 8)
  /-- `IN32 NABM PO_BDBAR`: R102. -/
  | in32NabmPoBdbar
  /-- `OUT32 NABM PO_BDBAR`: R103. -/
  | out32NabmPoBdbar (d : BitVec 32)
  /-- `IN8 NABM PO_CIV`: R104. -/
  | in8NabmPoCiv
  /-- `OUT8 NABM PO_CIV`: R105. -/
  | out8NabmPoCiv (d : BitVec 8)
  /-- `IN32 NABM PO_CIV (packed SR:LVI:CIV)`: R106. -/
  | in32NabmPoCiv
  /-- `IN8 NABM PO_LVI`: R107. -/
  | in8NabmPoLvi
  /-- `OUT8 NABM PO_LVI`: R108. -/
  | out8NabmPoLvi (d : BitVec 8)
  /-- `IN16 NABM PO_SR`: R109. -/
  | in16NabmPoSr
  /-- `IN8 NABM PO_SR`: R110. -/
  | in8NabmPoSr
  /-- `OUT8 NABM PO_SR`: R110. -/
  | out8NabmPoSr (d : BitVec 8)
  /-- `OUT16 NABM PO_SR`: R116. -/
  | out16NabmPoSr (d : BitVec 16)
  /-- `IN16 NABM PO_PICB`: R120. -/
  | in16NabmPoPicb
  /-- `OUT16 NABM PO_PICB`: R105. -/
  | out16NabmPoPicb (d : BitVec 16)
  /-- `IN32 NABM PO_PICB (packed CR:PIV:PICB)`: R121. -/
  | in32NabmPoPicb
  /-- `IN8 NABM PO_PIV`: R122. -/
  | in8NabmPoPiv
  /-- `OUT8 NABM PO_PIV`: R105. -/
  | out8NabmPoPiv (d : BitVec 8)
  /-- `IN8 NABM PO_CR`: R115. -/
  | in8NabmPoCr
  /-- `OUT8 NABM PO_CR`: R111. -/
  | out8NabmPoCr (d : BitVec 8)
  /-- `IN32 NABM MC_BDBAR`: R102. -/
  | in32NabmMcBdbar
  /-- `OUT32 NABM MC_BDBAR`: R103. -/
  | out32NabmMcBdbar (d : BitVec 32)
  /-- `IN8 NABM MC_CIV`: R104. -/
  | in8NabmMcCiv
  /-- `OUT8 NABM MC_CIV`: R105. -/
  | out8NabmMcCiv (d : BitVec 8)
  /-- `IN32 NABM MC_CIV (packed SR:LVI:CIV)`: R106. -/
  | in32NabmMcCiv
  /-- `IN8 NABM MC_LVI`: R107. -/
  | in8NabmMcLvi
  /-- `OUT8 NABM MC_LVI`: R108. -/
  | out8NabmMcLvi (d : BitVec 8)
  /-- `IN16 NABM MC_SR`: R109. -/
  | in16NabmMcSr
  /-- `IN8 NABM MC_SR`: R110. -/
  | in8NabmMcSr
  /-- `OUT8 NABM MC_SR`: R110. -/
  | out8NabmMcSr (d : BitVec 8)
  /-- `OUT16 NABM MC_SR`: R116. -/
  | out16NabmMcSr (d : BitVec 16)
  /-- `IN16 NABM MC_PICB`: R120. -/
  | in16NabmMcPicb
  /-- `OUT16 NABM MC_PICB`: R105. -/
  | out16NabmMcPicb (d : BitVec 16)
  /-- `IN32 NABM MC_PICB (packed CR:PIV:PICB)`: R121. -/
  | in32NabmMcPicb
  /-- `IN8 NABM MC_PIV`: R122. -/
  | in8NabmMcPiv
  /-- `OUT8 NABM MC_PIV`: R105. -/
  | out8NabmMcPiv (d : BitVec 8)
  /-- `IN8 NABM MC_CR`: R115. -/
  | in8NabmMcCr
  /-- `OUT8 NABM MC_CR`: R111. -/
  | out8NabmMcCr (d : BitVec 8)
  /-- `IN32 NABM GLOB_CNT`: R123. -/
  | in32NabmGlobCnt
  /-- `OUT32 NABM GLOB_CNT`: R118. -/
  | out32NabmGlobCnt (d : BitVec 32)
  /-- `IN32 NABM GLOB_STA`: R117. -/
  | in32NabmGlobSta
  /-- `OUT32 NABM GLOB_STA`: R124. -/
  | out32NabmGlobSta (d : BitVec 32)
  /-- `IN8 NABM CAS`: R119. -/
  | in8NabmCas
  /-- `OUT8 NABM CAS`: R125. -/
  | out8NabmCas (d : BitVec 8)
  /-- `IN8 NABM <unsupported>`: R101. -/
  | in8NabmUnsupported (off : BitVec 6)
  /-- `IN16 NABM <unsupported>`: R101. -/
  | in16NabmUnsupported (off : BitVec 6)
  /-- `IN32 NABM <unsupported>`: R101. -/
  | in32NabmUnsupported (off : BitVec 6)
  /-- `OUT8 NABM <unsupported>`: R101. -/
  | out8NabmUnsupported (off : BitVec 6) (d : BitVec 8)
  /-- `OUT16 NABM <unsupported>`: R101. -/
  | out16NabmUnsupported (off : BitVec 6) (d : BitVec 16)
  /-- `OUT32 NABM <unsupported>`: R101. -/
  | out32NabmUnsupported (off : BitVec 6) (d : BitVec 32)
  /-- `IN16 NAM <reg>`: R197. -/
  | in16NamReg (reg : BitVec 7)
  /-- `OUT16 NAM <reg> (plain store)`: R203. -/
  | out16NamReg (reg : BitVec 7) (d : BitVec 16)
  /-- `OUT16 NAM RESET`: R200. -/
  | out16NamReset (d : BitVec 16)
  /-- `OUT16 NAM MASTER_VOL`: R201. -/
  | out16NamMasterVol (d : BitVec 16)
  /-- `OUT16 NAM HEADPHONE_VOL`: R201. -/
  | out16NamHeadphoneVol (d : BitVec 16)
  /-- `OUT16 NAM MIC_VOL`: R202. -/
  | out16NamMicVol (d : BitVec 16)
  /-- `OUT16 NAM LINE_IN_VOL`: R202. -/
  | out16NamLineInVol (d : BitVec 16)
  /-- `OUT16 NAM PCM_OUT_VOL`: R202. -/
  | out16NamPcmOutVol (d : BitVec 16)
  /-- `OUT16 NAM RECORD_SELECT`: R205. -/
  | out16NamRecordSelect (d : BitVec 16)
  /-- `OUT16 NAM RECORD_GAIN`: R204. -/
  | out16NamRecordGain (d : BitVec 16)
  /-- `OUT16 NAM RECORD_GAIN_MIC`: R204. -/
  | out16NamRecordGainMic (d : BitVec 16)
  /-- `OUT16 NAM POWERDOWN`: R206. -/
  | out16NamPowerdown (d : BitVec 16)
  /-- `OUT16 NAM EXT_AUDIO_ID`: R207. -/
  | out16NamExtAudioId (d : BitVec 16)
  /-- `OUT16 NAM EXT_AUDIO_CTRL`: R208. -/
  | out16NamExtAudioCtrl (d : BitVec 16)
  /-- `OUT16 NAM PCM_FRONT_DAC_RATE`: R209. -/
  | out16NamPcmFrontDacRate (d : BitVec 16)
  /-- `OUT16 NAM PCM_LR_ADC_RATE`: R209. -/
  | out16NamPcmLrAdcRate (d : BitVec 16)
  /-- `OUT16 NAM MIC_ADC_RATE`: R209. -/
  | out16NamMicAdcRate (d : BitVec 16)
  /-- `OUT16 NAM VENDOR_ID1`: R207. -/
  | out16NamVendorId1 (d : BitVec 16)
  /-- `OUT16 NAM VENDOR_ID2`: R207. -/
  | out16NamVendorId2 (d : BitVec 16)
  /-- `IN8 NAM <unsupported width>`: R196. -/
  | in8NamUnsupported (off : BitVec 8)
  /-- `IN32 NAM <unsupported width>`: R196. -/
  | in32NamUnsupported (off : BitVec 8)
  /-- `OUT8 NAM <unsupported width>`: R196. -/
  | out8NamUnsupported (off : BitVec 8) (d : BitVec 8)
  /-- `OUT32 NAM <unsupported width>`: R196. -/
  | out32NamUnsupported (off : BitVec 8) (d : BitVec 32)
  /-- `IN16 NAM <odd offset>`: R196. -/
  | in16NamOdd (reg : BitVec 7)
  /-- `OUT16 NAM <odd offset>`: R196. -/
  | out16NamOdd (reg : BitVec 7) (d : BitVec 16)
  deriving DecidableEq, Repr

end Sys2Proof
end

