-- ==== Sys2Proof/WellFormed.lean ====
section
/-!
DEFINITION. Which terms of `Instr` are transactions: the catch-all constructors stand only for the (offset, width,
direction) triples that spec/30_encoding.md R82 and spec/45_mixer.md R198 give no row of their own (R87, R88 (b)).
-/

namespace Sys2Proof

/-- The offsets inside a stream's register block that R82 decodes for a byte access: CIV, LVI, SR, PIV, CR. -/
def streamByteOffsets : List Nat := [0x4, 0x5, 0x6, 0xA, 0xB]

/-- R82, for either direction: SR and PICB. -/
def streamWordOffsets : List Nat := [0x6, 0x8]

/-- R82, reads: BDBAR and the two packed reads. -/
def streamDwordReadOffsets : List Nat := [0x0, 0x4, 0x8]

/-- R82, writes: BDBAR. -/
def streamDwordWriteOffsets : List Nat := [0x0]

/-- Is `off` in one of the three stream blocks, at one of the block offsets `l` (R81, R100)? -/
def inStreamBlock (l : List Nat) (off : BitVec 6) : Bool :=
  decide (off.toNat < 0x30) && l.contains (off.toNat % 16)

/-- A byte access of the NABM region that R82 decodes; the same offsets for reads and writes. -/
def nabmByteDecoded (off : BitVec 6) : Bool :=
  inStreamBlock streamByteOffsets off || off.toNat == 0x34

/-- A word access of the NABM region that R82 decodes. -/
def nabmWordDecoded (off : BitVec 6) : Bool :=
  inStreamBlock streamWordOffsets off

/-- A dword read of the NABM region that R82 decodes. -/
def nabmDwordReadDecoded (off : BitVec 6) : Bool :=
  inStreamBlock streamDwordReadOffsets off || off.toNat == 0x2C || off.toNat == 0x30

/-- A dword write of the NABM region that R82 decodes. -/
def nabmDwordWriteDecoded (off : BitVec 6) : Bool :=
  inStreamBlock streamDwordWriteOffsets off || off.toNat == 0x2C || off.toNat == 0x30

/-- The mixer offsets whose word write has a rule other than the plain store (R198). -/
def namedMixerOffsets : List Nat :=
  [0x00, 0x02, 0x04, 0x0E, 0x10, 0x18, 0x1A, 0x1C, 0x1E, 0x26, 0x28, 0x2A, 0x2C, 0x32, 0x34, 0x7C, 0x7E]

/-- Does the register at even offset `2 * reg` have a write rule of its own (R198)? -/
def mixerNamed (reg : BitVec 7) : Bool :=
  namedMixerOffsets.contains (2 * reg.toNat)

/-- The check a decoded transaction meets: a catch-all row does not stand for a triple that has its own row (R87). -/
def Instr.wellFormed : Instr → Bool
  | .in32NabmPiBdbar => true
  | .out32NabmPiBdbar _ => true
  | .in8NabmPiCiv => true
  | .out8NabmPiCiv _ => true
  | .in32NabmPiCiv => true
  | .in8NabmPiLvi => true
  | .out8NabmPiLvi _ => true
  | .in16NabmPiSr => true
  | .in8NabmPiSr => true
  | .out8NabmPiSr _ => true
  | .out16NabmPiSr _ => true
  | .in16NabmPiPicb => true
  | .out16NabmPiPicb _ => true
  | .in32NabmPiPicb => true
  | .in8NabmPiPiv => true
  | .out8NabmPiPiv _ => true
  | .in8NabmPiCr => true
  | .out8NabmPiCr _ => true
  | .in32NabmPoBdbar => true
  | .out32NabmPoBdbar _ => true
  | .in8NabmPoCiv => true
  | .out8NabmPoCiv _ => true
  | .in32NabmPoCiv => true
  | .in8NabmPoLvi => true
  | .out8NabmPoLvi _ => true
  | .in16NabmPoSr => true
  | .in8NabmPoSr => true
  | .out8NabmPoSr _ => true
  | .out16NabmPoSr _ => true
  | .in16NabmPoPicb => true
  | .out16NabmPoPicb _ => true
  | .in32NabmPoPicb => true
  | .in8NabmPoPiv => true
  | .out8NabmPoPiv _ => true
  | .in8NabmPoCr => true
  | .out8NabmPoCr _ => true
  | .in32NabmMcBdbar => true
  | .out32NabmMcBdbar _ => true
  | .in8NabmMcCiv => true
  | .out8NabmMcCiv _ => true
  | .in32NabmMcCiv => true
  | .in8NabmMcLvi => true
  | .out8NabmMcLvi _ => true
  | .in16NabmMcSr => true
  | .in8NabmMcSr => true
  | .out8NabmMcSr _ => true
  | .out16NabmMcSr _ => true
  | .in16NabmMcPicb => true
  | .out16NabmMcPicb _ => true
  | .in32NabmMcPicb => true
  | .in8NabmMcPiv => true
  | .out8NabmMcPiv _ => true
  | .in8NabmMcCr => true
  | .out8NabmMcCr _ => true
  | .in32NabmGlobCnt => true
  | .out32NabmGlobCnt _ => true
  | .in32NabmGlobSta => true
  | .out32NabmGlobSta _ => true
  | .in8NabmCas => true
  | .out8NabmCas _ => true
  | .in8NabmUnsupported off => !nabmByteDecoded off
  | .in16NabmUnsupported off => !nabmWordDecoded off
  | .in32NabmUnsupported off => !nabmDwordReadDecoded off
  | .out8NabmUnsupported off _ => !nabmByteDecoded off
  | .out16NabmUnsupported off _ => !nabmWordDecoded off
  | .out32NabmUnsupported off _ => !nabmDwordWriteDecoded off
  | .in16NamReg _ => true
  | .out16NamReg reg _ => !mixerNamed reg
  | .out16NamReset _ => true
  | .out16NamMasterVol _ => true
  | .out16NamHeadphoneVol _ => true
  | .out16NamMicVol _ => true
  | .out16NamLineInVol _ => true
  | .out16NamPcmOutVol _ => true
  | .out16NamRecordSelect _ => true
  | .out16NamRecordGain _ => true
  | .out16NamRecordGainMic _ => true
  | .out16NamPowerdown _ => true
  | .out16NamExtAudioId _ => true
  | .out16NamExtAudioCtrl _ => true
  | .out16NamPcmFrontDacRate _ => true
  | .out16NamPcmLrAdcRate _ => true
  | .out16NamMicAdcRate _ => true
  | .out16NamVendorId1 _ => true
  | .out16NamVendorId2 _ => true
  | .in8NamUnsupported _ => true
  | .in32NamUnsupported _ => true
  | .out8NamUnsupported _ _ => true
  | .out32NamUnsupported _ _ => true
  | .in16NamOdd _ => true
  | .out16NamOdd _ _ => true

/-- The predicate form of `Instr.wellFormed`. -/
abbrev Instr.WellFormed (i : Instr) : Prop := i.wellFormed = true

end Sys2Proof
end

