-- ==== Sys2Proof/Decode.lean ====
section
/-!
DEFINITION. From transaction words to instructions and back: spec/30_encoding.md R80, R82, R86, R87, R88.
The hardware gets region, offset, width and direction from the host bus; `T` names them in one word (R80).
-/

namespace Sys2Proof

/-- Why a word names no transaction (R88 (a)). -/
inductive DecodeReject where
  /-- The width field `T[13:12]` is 11. -/
  | widthField
  /-- One of `T[11:8]` is not 0. -/
  | reservedBits
  /-- A NABM offset of 0x40 or more. -/
  | nabmOffset
  deriving DecidableEq, Repr

/-- `T[15]`: 1 is a write (guest OUT), 0 a read (guest IN). -/
def isWriteWord (t : Word) : Bool := t.getLsbD 15

/-- `T[14]`: 1 is the mixer region (NAM), 0 the bus-master region (NABM). -/
def isMixerWord (t : Word) : Bool := t.getLsbD 14

/-- `T[13:12]`, the width field. -/
def widthField (t : Word) : BitVec 2 := t.extractLsb' 12 2

/-- `T[11:8]`, which must be 0. -/
def reservedField (t : Word) : BitVec 4 := t.extractLsb' 8 4

/-- `T[7:0]`, the offset. -/
def offsetField (t : Word) : BitVec 8 := t.extractLsb' 0 8

/-- The byte reads of the NABM region by offset (R82); every other offset is the unsupported row (R101). -/
def nabmRead8 (off : BitVec 6) : Instr :=
  match off.toNat with
  | 0x04 => .in8NabmPiCiv
  | 0x05 => .in8NabmPiLvi
  | 0x06 => .in8NabmPiSr
  | 0x0A => .in8NabmPiPiv
  | 0x0B => .in8NabmPiCr
  | 0x14 => .in8NabmPoCiv
  | 0x15 => .in8NabmPoLvi
  | 0x16 => .in8NabmPoSr
  | 0x1A => .in8NabmPoPiv
  | 0x1B => .in8NabmPoCr
  | 0x24 => .in8NabmMcCiv
  | 0x25 => .in8NabmMcLvi
  | 0x26 => .in8NabmMcSr
  | 0x2A => .in8NabmMcPiv
  | 0x2B => .in8NabmMcCr
  | 0x34 => .in8NabmCas
  | _ => .in8NabmUnsupported off

/-- The word reads of the NABM region by offset (R82); every other offset is the unsupported row (R101). -/
def nabmRead16 (off : BitVec 6) : Instr :=
  match off.toNat with
  | 0x06 => .in16NabmPiSr
  | 0x08 => .in16NabmPiPicb
  | 0x16 => .in16NabmPoSr
  | 0x18 => .in16NabmPoPicb
  | 0x26 => .in16NabmMcSr
  | 0x28 => .in16NabmMcPicb
  | _ => .in16NabmUnsupported off

/-- The dword reads of the NABM region by offset (R82); every other offset is the unsupported row (R101). -/
def nabmRead32 (off : BitVec 6) : Instr :=
  match off.toNat with
  | 0x00 => .in32NabmPiBdbar
  | 0x04 => .in32NabmPiCiv
  | 0x08 => .in32NabmPiPicb
  | 0x10 => .in32NabmPoBdbar
  | 0x14 => .in32NabmPoCiv
  | 0x18 => .in32NabmPoPicb
  | 0x20 => .in32NabmMcBdbar
  | 0x24 => .in32NabmMcCiv
  | 0x28 => .in32NabmMcPicb
  | 0x2C => .in32NabmGlobCnt
  | 0x30 => .in32NabmGlobSta
  | _ => .in32NabmUnsupported off

/-- The byte writes of the NABM region by offset (R82); every other offset is the unsupported row (R101). -/
def nabmWrite8 (off : BitVec 6) (d : BitVec 8) : Instr :=
  match off.toNat with
  | 0x04 => .out8NabmPiCiv d
  | 0x05 => .out8NabmPiLvi d
  | 0x06 => .out8NabmPiSr d
  | 0x0A => .out8NabmPiPiv d
  | 0x0B => .out8NabmPiCr d
  | 0x14 => .out8NabmPoCiv d
  | 0x15 => .out8NabmPoLvi d
  | 0x16 => .out8NabmPoSr d
  | 0x1A => .out8NabmPoPiv d
  | 0x1B => .out8NabmPoCr d
  | 0x24 => .out8NabmMcCiv d
  | 0x25 => .out8NabmMcLvi d
  | 0x26 => .out8NabmMcSr d
  | 0x2A => .out8NabmMcPiv d
  | 0x2B => .out8NabmMcCr d
  | 0x34 => .out8NabmCas d
  | _ => .out8NabmUnsupported off d

/-- The word writes of the NABM region by offset (R82); every other offset is the unsupported row (R101). -/
def nabmWrite16 (off : BitVec 6) (d : BitVec 16) : Instr :=
  match off.toNat with
  | 0x06 => .out16NabmPiSr d
  | 0x08 => .out16NabmPiPicb d
  | 0x16 => .out16NabmPoSr d
  | 0x18 => .out16NabmPoPicb d
  | 0x26 => .out16NabmMcSr d
  | 0x28 => .out16NabmMcPicb d
  | _ => .out16NabmUnsupported off d

/-- The dword writes of the NABM region by offset (R82); every other offset is the unsupported row (R101). -/
def nabmWrite32 (off : BitVec 6) (d : BitVec 32) : Instr :=
  match off.toNat with
  | 0x00 => .out32NabmPiBdbar d
  | 0x10 => .out32NabmPoBdbar d
  | 0x20 => .out32NabmMcBdbar d
  | 0x2C => .out32NabmGlobCnt d
  | 0x30 => .out32NabmGlobSta d
  | _ => .out32NabmUnsupported off d

/-- The word writes of the mixer region at even offset `2 * reg`, dispatched as R198 says. -/
def namWrite16 (reg : BitVec 7) (d : BitVec 16) : Instr :=
  match 2 * reg.toNat with
  | 0x00 => .out16NamReset d
  | 0x02 => .out16NamMasterVol d
  | 0x04 => .out16NamHeadphoneVol d
  | 0x0E => .out16NamMicVol d
  | 0x10 => .out16NamLineInVol d
  | 0x18 => .out16NamPcmOutVol d
  | 0x1A => .out16NamRecordSelect d
  | 0x1C => .out16NamRecordGain d
  | 0x1E => .out16NamRecordGainMic d
  | 0x26 => .out16NamPowerdown d
  | 0x28 => .out16NamExtAudioId d
  | 0x2A => .out16NamExtAudioCtrl d
  | 0x2C => .out16NamPcmFrontDacRate d
  | 0x32 => .out16NamPcmLrAdcRate d
  | 0x34 => .out16NamMicAdcRate d
  | 0x7C => .out16NamVendorId1 d
  | 0x7E => .out16NamVendorId2 d
  | _ => .out16NamReg reg d

/-- A NABM transaction (R100): the width field selects the column of R82. -/
def decodeNabm (write : Bool) (w : BitVec 2) (off : BitVec 6) (d : Dword) : Instr :=
  match write, w.toNat with
  | false, 0 => nabmRead8 off
  | false, 1 => nabmRead16 off
  | false, _ => nabmRead32 off
  | true, 0 => nabmWrite8 off (d.setWidth 8)
  | true, 1 => nabmWrite16 off (d.setWidth 16)
  | true, _ => nabmWrite32 off d

/-- A mixer transaction: only word accesses at even offsets are decoded (R196, R197, R198). -/
def decodeNam (write : Bool) (w : BitVec 2) (off : BitVec 8) (d : Dword) : Instr :=
  match write, w.toNat with
  | false, 0 => .in8NamUnsupported off
  | false, 1 => bif off.getLsbD 0 then .in16NamOdd (off.extractLsb' 1 7) else .in16NamReg (off.extractLsb' 1 7)
  | false, _ => .in32NamUnsupported off
  | true, 0 => .out8NamUnsupported off (d.setWidth 8)
  | true, 1 =>
    bif off.getLsbD 0 then .out16NamOdd (off.extractLsb' 1 7) (d.setWidth 16)
    else namWrite16 (off.extractLsb' 1 7) (d.setWidth 16)
  | true, _ => .out32NamUnsupported off d

/-- The instruction a transaction word and its data operand name (R80, R87). Of `d` only the low bits of the access
width count (R86). A word that names no transaction is rejected by name (R88 (a)). -/
def decode (t : Word) (d : Dword) : Except DecodeReject Instr :=
  if widthField t = 3 then .error .widthField
  else if reservedField t ≠ 0 then .error .reservedBits
  else bif isMixerWord t then .ok (decodeNam (isWriteWord t) (widthField t) (offsetField t) d)
  else if (offsetField t).toNat < 0x40 then
    .ok (decodeNabm (isWriteWord t) (widthField t) ((offsetField t).setWidth 6) d)
  else .error .nabmOffset

/-- The word `T` of R80 from its fields; bits 11:8 are 0. -/
def encodeWord (write mixer : Bool) (w : BitVec 2) (off : BitVec 8) : Word :=
  BitVec.ofBool write ++ BitVec.ofBool mixer ++ w ++ 0#4 ++ off

/-- The transaction word of an instruction, field by field from the rows of spec/opcode_table.json. -/
def Instr.word : Instr → Word
  | .in32NabmPiBdbar => encodeWord false false 2 0x00
  | .out32NabmPiBdbar _ => encodeWord true false 2 0x00
  | .in8NabmPiCiv => encodeWord false false 0 0x04
  | .out8NabmPiCiv _ => encodeWord true false 0 0x04
  | .in32NabmPiCiv => encodeWord false false 2 0x04
  | .in8NabmPiLvi => encodeWord false false 0 0x05
  | .out8NabmPiLvi _ => encodeWord true false 0 0x05
  | .in16NabmPiSr => encodeWord false false 1 0x06
  | .in8NabmPiSr => encodeWord false false 0 0x06
  | .out8NabmPiSr _ => encodeWord true false 0 0x06
  | .out16NabmPiSr _ => encodeWord true false 1 0x06
  | .in16NabmPiPicb => encodeWord false false 1 0x08
  | .out16NabmPiPicb _ => encodeWord true false 1 0x08
  | .in32NabmPiPicb => encodeWord false false 2 0x08
  | .in8NabmPiPiv => encodeWord false false 0 0x0A
  | .out8NabmPiPiv _ => encodeWord true false 0 0x0A
  | .in8NabmPiCr => encodeWord false false 0 0x0B
  | .out8NabmPiCr _ => encodeWord true false 0 0x0B
  | .in32NabmPoBdbar => encodeWord false false 2 0x10
  | .out32NabmPoBdbar _ => encodeWord true false 2 0x10
  | .in8NabmPoCiv => encodeWord false false 0 0x14
  | .out8NabmPoCiv _ => encodeWord true false 0 0x14
  | .in32NabmPoCiv => encodeWord false false 2 0x14
  | .in8NabmPoLvi => encodeWord false false 0 0x15
  | .out8NabmPoLvi _ => encodeWord true false 0 0x15
  | .in16NabmPoSr => encodeWord false false 1 0x16
  | .in8NabmPoSr => encodeWord false false 0 0x16
  | .out8NabmPoSr _ => encodeWord true false 0 0x16
  | .out16NabmPoSr _ => encodeWord true false 1 0x16
  | .in16NabmPoPicb => encodeWord false false 1 0x18
  | .out16NabmPoPicb _ => encodeWord true false 1 0x18
  | .in32NabmPoPicb => encodeWord false false 2 0x18
  | .in8NabmPoPiv => encodeWord false false 0 0x1A
  | .out8NabmPoPiv _ => encodeWord true false 0 0x1A
  | .in8NabmPoCr => encodeWord false false 0 0x1B
  | .out8NabmPoCr _ => encodeWord true false 0 0x1B
  | .in32NabmMcBdbar => encodeWord false false 2 0x20
  | .out32NabmMcBdbar _ => encodeWord true false 2 0x20
  | .in8NabmMcCiv => encodeWord false false 0 0x24
  | .out8NabmMcCiv _ => encodeWord true false 0 0x24
  | .in32NabmMcCiv => encodeWord false false 2 0x24
  | .in8NabmMcLvi => encodeWord false false 0 0x25
  | .out8NabmMcLvi _ => encodeWord true false 0 0x25
  | .in16NabmMcSr => encodeWord false false 1 0x26
  | .in8NabmMcSr => encodeWord false false 0 0x26
  | .out8NabmMcSr _ => encodeWord true false 0 0x26
  | .out16NabmMcSr _ => encodeWord true false 1 0x26
  | .in16NabmMcPicb => encodeWord false false 1 0x28
  | .out16NabmMcPicb _ => encodeWord true false 1 0x28
  | .in32NabmMcPicb => encodeWord false false 2 0x28
  | .in8NabmMcPiv => encodeWord false false 0 0x2A
  | .out8NabmMcPiv _ => encodeWord true false 0 0x2A
  | .in8NabmMcCr => encodeWord false false 0 0x2B
  | .out8NabmMcCr _ => encodeWord true false 0 0x2B
  | .in32NabmGlobCnt => encodeWord false false 2 0x2C
  | .out32NabmGlobCnt _ => encodeWord true false 2 0x2C
  | .in32NabmGlobSta => encodeWord false false 2 0x30
  | .out32NabmGlobSta _ => encodeWord true false 2 0x30
  | .in8NabmCas => encodeWord false false 0 0x34
  | .out8NabmCas _ => encodeWord true false 0 0x34
  | .in8NabmUnsupported off => encodeWord false false 0 (off.setWidth 8)
  | .in16NabmUnsupported off => encodeWord false false 1 (off.setWidth 8)
  | .in32NabmUnsupported off => encodeWord false false 2 (off.setWidth 8)
  | .out8NabmUnsupported off _ => encodeWord true false 0 (off.setWidth 8)
  | .out16NabmUnsupported off _ => encodeWord true false 1 (off.setWidth 8)
  | .out32NabmUnsupported off _ => encodeWord true false 2 (off.setWidth 8)
  | .in16NamReg reg => encodeWord false true 1 (reg ++ 0#1)
  | .out16NamReg reg _ => encodeWord true true 1 (reg ++ 0#1)
  | .out16NamReset _ => encodeWord true true 1 0x00
  | .out16NamMasterVol _ => encodeWord true true 1 0x02
  | .out16NamHeadphoneVol _ => encodeWord true true 1 0x04
  | .out16NamMicVol _ => encodeWord true true 1 0x0E
  | .out16NamLineInVol _ => encodeWord true true 1 0x10
  | .out16NamPcmOutVol _ => encodeWord true true 1 0x18
  | .out16NamRecordSelect _ => encodeWord true true 1 0x1A
  | .out16NamRecordGain _ => encodeWord true true 1 0x1C
  | .out16NamRecordGainMic _ => encodeWord true true 1 0x1E
  | .out16NamPowerdown _ => encodeWord true true 1 0x26
  | .out16NamExtAudioId _ => encodeWord true true 1 0x28
  | .out16NamExtAudioCtrl _ => encodeWord true true 1 0x2A
  | .out16NamPcmFrontDacRate _ => encodeWord true true 1 0x2C
  | .out16NamPcmLrAdcRate _ => encodeWord true true 1 0x32
  | .out16NamMicAdcRate _ => encodeWord true true 1 0x34
  | .out16NamVendorId1 _ => encodeWord true true 1 0x7C
  | .out16NamVendorId2 _ => encodeWord true true 1 0x7E
  | .in8NamUnsupported off => encodeWord false true 0 off
  | .in32NamUnsupported off => encodeWord false true 2 off
  | .out8NamUnsupported off _ => encodeWord true true 0 off
  | .out32NamUnsupported off _ => encodeWord true true 2 off
  | .in16NamOdd reg => encodeWord false true 1 (reg ++ 1#1)
  | .out16NamOdd reg _ => encodeWord true true 1 (reg ++ 1#1)

/-- The data operand of an instruction, zero-extended to 32 bits (R86); 0 for a read, which has none. -/
def Instr.operand : Instr → Dword
  | .in32NabmPiBdbar => 0
  | .out32NabmPiBdbar d => d
  | .in8NabmPiCiv => 0
  | .out8NabmPiCiv d => d.setWidth 32
  | .in32NabmPiCiv => 0
  | .in8NabmPiLvi => 0
  | .out8NabmPiLvi d => d.setWidth 32
  | .in16NabmPiSr => 0
  | .in8NabmPiSr => 0
  | .out8NabmPiSr d => d.setWidth 32
  | .out16NabmPiSr d => d.setWidth 32
  | .in16NabmPiPicb => 0
  | .out16NabmPiPicb d => d.setWidth 32
  | .in32NabmPiPicb => 0
  | .in8NabmPiPiv => 0
  | .out8NabmPiPiv d => d.setWidth 32
  | .in8NabmPiCr => 0
  | .out8NabmPiCr d => d.setWidth 32
  | .in32NabmPoBdbar => 0
  | .out32NabmPoBdbar d => d
  | .in8NabmPoCiv => 0
  | .out8NabmPoCiv d => d.setWidth 32
  | .in32NabmPoCiv => 0
  | .in8NabmPoLvi => 0
  | .out8NabmPoLvi d => d.setWidth 32
  | .in16NabmPoSr => 0
  | .in8NabmPoSr => 0
  | .out8NabmPoSr d => d.setWidth 32
  | .out16NabmPoSr d => d.setWidth 32
  | .in16NabmPoPicb => 0
  | .out16NabmPoPicb d => d.setWidth 32
  | .in32NabmPoPicb => 0
  | .in8NabmPoPiv => 0
  | .out8NabmPoPiv d => d.setWidth 32
  | .in8NabmPoCr => 0
  | .out8NabmPoCr d => d.setWidth 32
  | .in32NabmMcBdbar => 0
  | .out32NabmMcBdbar d => d
  | .in8NabmMcCiv => 0
  | .out8NabmMcCiv d => d.setWidth 32
  | .in32NabmMcCiv => 0
  | .in8NabmMcLvi => 0
  | .out8NabmMcLvi d => d.setWidth 32
  | .in16NabmMcSr => 0
  | .in8NabmMcSr => 0
  | .out8NabmMcSr d => d.setWidth 32
  | .out16NabmMcSr d => d.setWidth 32
  | .in16NabmMcPicb => 0
  | .out16NabmMcPicb d => d.setWidth 32
  | .in32NabmMcPicb => 0
  | .in8NabmMcPiv => 0
  | .out8NabmMcPiv d => d.setWidth 32
  | .in8NabmMcCr => 0
  | .out8NabmMcCr d => d.setWidth 32
  | .in32NabmGlobCnt => 0
  | .out32NabmGlobCnt d => d
  | .in32NabmGlobSta => 0
  | .out32NabmGlobSta d => d
  | .in8NabmCas => 0
  | .out8NabmCas d => d.setWidth 32
  | .in8NabmUnsupported _ => 0
  | .in16NabmUnsupported _ => 0
  | .in32NabmUnsupported _ => 0
  | .out8NabmUnsupported _ d => d.setWidth 32
  | .out16NabmUnsupported _ d => d.setWidth 32
  | .out32NabmUnsupported _ d => d
  | .in16NamReg _ => 0
  | .out16NamReg _ d => d.setWidth 32
  | .out16NamReset d => d.setWidth 32
  | .out16NamMasterVol d => d.setWidth 32
  | .out16NamHeadphoneVol d => d.setWidth 32
  | .out16NamMicVol d => d.setWidth 32
  | .out16NamLineInVol d => d.setWidth 32
  | .out16NamPcmOutVol d => d.setWidth 32
  | .out16NamRecordSelect d => d.setWidth 32
  | .out16NamRecordGain d => d.setWidth 32
  | .out16NamRecordGainMic d => d.setWidth 32
  | .out16NamPowerdown d => d.setWidth 32
  | .out16NamExtAudioId d => d.setWidth 32
  | .out16NamExtAudioCtrl d => d.setWidth 32
  | .out16NamPcmFrontDacRate d => d.setWidth 32
  | .out16NamPcmLrAdcRate d => d.setWidth 32
  | .out16NamMicAdcRate d => d.setWidth 32
  | .out16NamVendorId1 d => d.setWidth 32
  | .out16NamVendorId2 d => d.setWidth 32
  | .in8NamUnsupported _ => 0
  | .in32NamUnsupported _ => 0
  | .out8NamUnsupported _ d => d.setWidth 32
  | .out32NamUnsupported _ d => d
  | .in16NamOdd _ => 0
  | .out16NamOdd _ d => d.setWidth 32

/-- The transaction of an instruction: its word and its data operand. -/
def encode (i : Instr) : Word × Dword := (i.word, i.operand)

/-- The instruction the decoder reads from a transaction whose first `nbits` bits are `w` and whose other bits are 0:
bits 15:0 are `T`, the bits above are the data operand. -/
def decodeTableWord (nbits w : Nat) : Option Instr :=
  match decode (BitVec.ofNat 16 (w % 2 ^ nbits)) (BitVec.ofNat 32 (w % 2 ^ nbits / 2 ^ 16)) with
  | .ok i => some i
  | .error _ => none

end Sys2Proof
end

