-- ==== Sys2Proof/Machine/Regs.lean ====
section
/-!
DEFINITION. The types the state is made of: a stream's registers (spec/10_state.md section 2), its runtime state
(section 5), the codec bank (section 4), the save record (spec/46_host_interface.md R236), the steps of the agents
(spec/60_exceptions.md R255) and what the device sends to the host.
-/

namespace Sys2Proof.Machine

open Sys2Proof

/-- `S[s]`: the registers of one stream (R23 to R30). Indices hold their 5 significant bits (R24 to R26). -/
structure StreamRegs where
  /-- Descriptor list base, R23. -/
  bdbar : Dword
  /-- Current index, R24. -/
  civ : BitVec 5
  /-- Last valid index, R25. -/
  lvi : BitVec 5
  /-- Status, R27. -/
  sr : Word
  /-- Samples left in the active descriptor, R28. -/
  picb : Word
  /-- Prefetched index, R26. -/
  piv : BitVec 5
  /-- Control, R29. -/
  cr : Byte
  /-- Is the cached descriptor valid, R30. -/
  bdValid : Bool
  /-- Cached address, R30, advanced by each move (R152). -/
  bdAddr : Addr
  /-- Cached control and length, R30, R85. -/
  bdCtl : Dword
  deriving DecidableEq, Repr, Inhabited

/-- The direction of a stream (R19). -/
inductive Direction where
  /-- Ring buffer to guest memory (PI, MC). -/
  | input
  /-- Guest memory to ring buffer (PO). -/
  | output
  deriving DecidableEq, Repr, Inhabited

/-- `RT[s].CFG`, the active stream configuration (R39, R186): rate in Hz, channels, direction. -/
structure StreamConfig where
  rate : Nat
  channels : Nat
  direction : Direction
  deriving DecidableEq, Repr, Inhabited

/-- `RT[s]`: the host-side state of one stream (R37 to R41). -/
structure StreamRuntime where
  /-- Open towards the host sink, R37. -/
  enabled : Bool
  /-- The in-flight bytes, oldest first, R38. -/
  ring : List Byte
  /-- Capacity of the ring in bytes, R38. -/
  ringCap : Nat
  /-- R39. -/
  config : StreamConfig
  /-- The effective timer frequency, R40, R181. -/
  timerHz : Nat
  /-- Bytes to move per tick, R40, R182. -/
  bytesPerTick : Nat
  /-- Virtual ticks per timer period, R40, R182. -/
  ticksPerPeriod : Nat
  /-- Is the timer armed, R40. -/
  armed : Bool
  /-- Virtual-clock value of the next expiry, R40. -/
  deadline : BitVec 64
  /-- Virtual-clock value of the last transfer, R40. -/
  last : BitVec 64
  /-- The worker exists, R41. -/
  workerExists : Bool
  /-- The worker is enabled, R41. -/
  workerEnabled : Bool
  /-- The worker was notified and has not run since, R41. -/
  workerSignalled : Bool
  /-- The worker was told to exit, R41. -/
  workerShutdown : Bool
  deriving DecidableEq, Repr, Inhabited

/-- `MIX`: 128 codec registers of 16 bits, register `r` at NAM offset `2 * r` (R35, R195). -/
abbrev Bank := Vector Word 128

/-- A codec bank of zeros. -/
def Bank.zero : Bank := Vector.replicate 128 0

/-- The persisted record of R236, field by field in its order. -/
structure SaveRecord where
  globCnt : Dword
  globSta : Dword
  cas : BitVec 1
  streams : Tri StreamRegs
  mix : Bank
  enabled : Tri Bool
  deriving DecidableEq, Repr

/-- A step of an agent other than the guest CPU's port transactions (R255). -/
inductive AgentEvent where
  /-- The timer of stream `k` fires (R183). -/
  | tick (k : StreamId)
  /-- The worker of stream `k` runs once (R233). -/
  | worker (k : StreamId)
  /-- The host advances the virtual clock by `delta` ticks (R180, R240). -/
  | clock (delta : BitVec 64)
  /-- The host takes a record (R236). -/
  | save
  /-- The host loads a record (R237). -/
  | load (r : SaveRecord)
  /-- A guest (VM) reset delivered by the host (R270). -/
  | deviceReset
  /-- Teardown tells the worker of stream `k` to exit (R233, R239). -/
  | shutdown (k : StreamId)
  /-- Teardown releases the ring of stream `k`, once its worker is gone (R233, R239). -/
  | release (k : StreamId)
  /-- Another bus master or a guest CPU issues a store of one byte to guest memory (R64, R70). -/
  | guestStore (a : Addr) (b : Byte)
  /-- The `n`-th store in flight completes (R70). -/
  | storeDone (n : Nat)
  deriving DecidableEq, Repr, Inhabited

/-- The access widths of R11 and R87. -/
inductive AccessWidth where
  | byte
  | word
  | dword
  deriving DecidableEq, Repr, Inhabited

/-- One step of the machine, as its environment schedules it (R255): a port transaction or another agent's step. -/
inductive Event where
  /-- The guest CPU performs the transaction named by the word `t`, with data operand `d` for a write (R80). -/
  | port (t : Word) (d : Dword)
  /-- The guest CPU accesses a port of the host bus: direction, width, port address and data (R80: "a port address
  (`base + off`), a width and a direction"). -/
  | access (write : Bool) (width : AccessWidth) (port : Nat) (d : Dword)
  /-- Another agent takes a step. -/
  | agent (e : AgentEvent)
  deriving DecidableEq, Repr, Inhabited

/-- The value of the last port read, by access width (R16, R65). -/
inductive PortResult where
  /-- No port read has happened. -/
  | none
  | byte (v : BitVec 8)
  | word (v : BitVec 16)
  | dword (v : BitVec 32)
  deriving DecidableEq, Repr

/-- The host controls a codec volume or gain register drives (R201, R202, R204). -/
inductive VolumeControl where
  | master
  | micIn
  | lineIn
  | front
  | lineInRec
  | micRec
  deriving DecidableEq, Repr

/-- What a volume or gain register means to the host (R210, R211). -/
structure Volume where
  muted : Bool
  left : Nat
  right : Nat
  deriving DecidableEq, Repr

/-- The record sources of R205 and R212. -/
inductive RecordSource where
  | mic
  | cd
  | video
  | aux
  | lineIn
  | phone
  deriving DecidableEq, Repr

/-- What the device sends to the host (R185, R187, R213, R230, R231, R236). -/
inductive HostCall where
  /-- `HostOpen(s, CFG)`, R185, R190. -/
  | openStream (k : StreamId) (c : StreamConfig)
  /-- `HostClose(s)`, R187, R190. -/
  | closeStream (k : StreamId)
  /-- `sink.write` took these bytes, oldest first, R231. -/
  | sinkWrite (k : StreamId) (bytes : List Byte)
  /-- `sink.read` of the granted byte count, R231. -/
  | sinkRead (k : StreamId) (bytes : List Byte)
  /-- `sink.update()`, R231. -/
  | sinkUpdate (k : StreamId)
  /-- `HostSetVolume`, R201, R202, R204. -/
  | setVolume (c : VolumeControl) (v : Volume)
  /-- `HostSetRecordingSource`, R205. -/
  | setRecordingSource (left right : RecordSource)
  /-- The record a save hands out, R236. -/
  | saved (r : SaveRecord)
  deriving DecidableEq, Repr

/-- What the host answers one stream within one step (R230, R232). -/
structure HostAnswers where
  /-- `HostOpen` succeeds. -/
  openOk : Bool
  /-- `isActive()`. -/
  active : Bool
  /-- `getWritable()`. -/
  writable : Nat
  /-- How many bytes `write` would take if offered that many. -/
  accepts : Nat
  /-- `getReadable()`. -/
  readable : Nat
  /-- The bytes `read` would return if asked for that many. -/
  supplies : List Byte
  deriving DecidableEq, Repr, Inhabited

end Sys2Proof.Machine
end

