-- ==== Sys2Proof/Config.lean ====
section
/-!
DEFINITION. The parameters of spec/00_scope.md R12 as a structure the state holds, and the free values: constants with
no body, which nothing in Lean can evaluate.
-/

namespace Sys2Proof

open Sys2Proof.Machine

/-- The codec models of R12 (`CODEC_MODEL`, D42). -/
inductive CodecModel where
  | stac9700
  | ad1980
  | ad1981b
  deriving DecidableEq, Repr

/-- A range of guest-physical addresses the platform backs with RAM (R64). -/
structure RamRegion where
  base : Nat
  size : Nat
  deriving DecidableEq, Repr

/-- Is the address in the region? -/
def RamRegion.contains (r : RamRegion) (a : Nat) : Bool :=
  decide (r.base ≤ a) && decide (a < r.base + r.size)

/-- What an implementation or a platform fixes for the device's lifetime (R12, R36, R64). -/
structure Platform where
  /-- `NAM_BASE`, D44: the port address of mixer offset 0. -/
  namBase : Nat
  /-- `NABM_BASE`, D44: the port address of bus-master offset 0. -/
  nabmBase : Nat
  /-- `CODEC_MODEL`, D42. -/
  codec : CodecModel
  /-- `MIXER_RESET[CODEC_MODEL]` where the platform does not take the table that R224 suggests, D28. -/
  mixerTable : Option Bank
  /-- `RING_CAP[s]` in bytes, D35. -/
  ringCap : Tri Nat
  /-- `TIMER_HZ_DEFAULT`, D17. -/
  timerHzDefault : Nat
  /-- `TIMER_HZ_HIGH`, D17. -/
  timerHzHigh : Nat
  /-- `TIMER_HZ_OVERRIDE`, D17. -/
  timerHzOverride : Option Nat
  /-- `VCLOCK_HZ`, D16. -/
  vclockHz : Nat
  /-- Is `NextDelay` the default that R189 suggests? If not, it is the free value `Config.nextDelay`. -/
  suggestedDelay : Bool
  /-- `ASYNC_MODE`, D18. -/
  asyncMode : Bool
  /-- `VOL_MAX`, D33. -/
  volMax : Nat
  /-- Where the platform backs guest memory with RAM (R64). -/
  ram : List RamRegion
  deriving DecidableEq, Repr

/-- The constraints on the parameters: every timer frequency and the clock rate are at least 1 (R181, R182), `VOL_MAX` is
at least 124 (D33, R47), and the two port regions do not overlap (R61: two regions). -/
def Platform.ok (p : Platform) : Bool :=
  decide (1 ≤ p.timerHzDefault) && decide (1 ≤ p.timerHzHigh) && decide (1 ≤ p.timerHzOverride.getD 1) &&
    decide (1 ≤ p.vclockHz) && decide (124 ≤ p.volMax) &&
    (decide (p.namBase + 0x100 ≤ p.nabmBase) || decide (p.nabmBase + 0x40 ≤ p.namBase))

/-- The parameter values the spec suggests (D16, D17, D33, D42, spec/95_test_vectors.md's conventions). DESIGN CHOICE
for those it leaves open: see notes/assumptions/4.md, 6.md, 7.md and 31.md; unsafe where a claim rests on a value. -/
def Platform.suggested : Platform where
  namBase := 0
  nabmBase := 0x100
  codec := .stac9700
  mixerTable := none
  ringCap := ⟨4096, 4096, 4096⟩
  timerHzDefault := 100
  timerHzHigh := 200
  timerHzOverride := none
  vclockHz := 1000000000
  suggestedDelay := true
  asyncMode := false
  volMax := 255
  ram := [⟨0, 4294967296⟩]

/-- Free value: the step the environment takes next where the state's queue is empty (R69, R255, I20). -/
opaque Config.environment : Nat → Event

/-- Free value: the host's answers within a step (R230, R232, I5, I6). -/
opaque Config.hostAnswers : Nat → Tri HostAnswers

/-- Free value: a byte of guest memory that is not backed by RAM or that nothing has written (R64, I4). The first
argument numbers the read, the second the byte within it. -/
opaque Config.memDraw : Nat → Nat → Byte

/-- Free value: which of the candidate bytes a read that races guest stores returns (R64, R70, I19). -/
opaque Config.raceDraw : Nat → Nat → Nat

/-- Free value: `NextDelay` where the platform does not use the suggested default: a function of the stream's
registers and runtime state (R189, I7). -/
opaque Config.nextDelay : StreamRegs → StreamRuntime → Nat

end Sys2Proof
end

