-- ==== Sys2Proof/Machine/Codec.lean ====
section
/-!
DEFINITION. The codec as functions on values: the reset table (spec/45_mixer.md R224), the value each write stores
(R201, R205, R206) and what a register means to the host (R210, R211, R212).
-/

namespace Sys2Proof.Machine

open Sys2Proof

/-- The number of the register at mixer offset `off`: offset bits 7:1 (R195). -/
def mixReg (off : Nat) : BitVec 7 := BitVec.ofNat 7 (off / 2)

/-- A register of the bank (R195). -/
def bankGet (b : Bank) (r : BitVec 7) : Word := b[r.toNat]'r.isLt

/-- The bank with one register replaced. -/
def bankSet (b : Bank) (r : BitVec 7) (v : Word) : Bank := b.set r.toNat v r.isLt

/-- The suggested `MIXER_RESET[CODEC_MODEL]` by offset (R224): every register the table does not name is 0. -/
def mixerResetAt : Nat → CodecModel → Word
  | 0x00, .stac9700 => 0x0000
  | 0x00, .ad1980 => 0x0010
  | 0x00, .ad1981b => 0x0000
  | 0x02, _ => 0x8000
  | 0x04, .stac9700 => 0x0000
  | 0x04, .ad1980 => 0x8000
  | 0x04, .ad1981b => 0x0000
  | 0x06, _ => 0x8000
  | 0x0A, _ => 0x0000
  | 0x0C, _ => 0x8008
  | 0x0E, _ => 0x8808
  | 0x10, _ => 0x8808
  | 0x12, _ => 0x8808
  | 0x16, _ => 0x8808
  | 0x18, _ => 0x8808
  | 0x1A, _ => 0x0000
  | 0x1E, _ => 0x8000
  | 0x20, _ => 0x0000
  | 0x22, _ => 0x0000
  | 0x26, _ => 0x000F
  | 0x28, _ => 0x0809
  | 0x2A, _ => 0x0009
  | 0x2C, _ => 0xBB80
  | 0x2E, _ => 0xBB80
  | 0x30, _ => 0xBB80
  | 0x32, _ => 0xBB80
  | 0x34, _ => 0xBB80
  | 0x7C, .stac9700 => 0x8384
  | 0x7C, .ad1980 => 0x4144
  | 0x7C, .ad1981b => 0x4144
  | 0x7E, .stac9700 => 0x7600
  | 0x7E, .ad1980 => 0x5370
  | 0x7E, .ad1981b => 0x5374
  | _, _ => 0

/-- The suggested `MIXER_RESET[CODEC_MODEL]` as a bank (R224). -/
def mixerReset (m : CodecModel) : Bank := Vector.ofFn fun i => mixerResetAt (2 * i.val) m

/-- `MIXER_RESET[CODEC_MODEL]` of a platform: its own table, or the suggested one (R12, R224). -/
def mixerResetFor (p : Platform) : Bank := p.mixerTable.getD (mixerReset p.codec)

/-- R201: a set bit 5 forces bits 4:0 to 1, a set bit 13 forces bits 12:8 to 1. -/
def quirkVolume (v : Word) : Word :=
  let lo : Word := if v.getLsbD 5 then v ||| 0x001F else v
  if v.getLsbD 13 then lo ||| 0x1F00 else lo

/-- `Vol(v)` (R210). -/
def volumeOf (volMax : Nat) (v : Word) : Volume where
  muted := v.getLsbD 15
  left := volMax - 4 * (v.extractLsb' 8 5).toNat
  right := volMax - 4 * (v.extractLsb' 0 5).toNat

/-- `Gain(v)` (R211): the gain fields do not change the host volume. -/
def gainOf (volMax : Nat) (v : Word) : Volume where
  muted := v.getLsbD 15
  left := volMax
  right := volMax

/-- `map(i)` then `Src` (R205, R212): codes 5 and 6 are not in the enumeration and fall to the microphone. -/
def recordSourceOf (i : BitVec 3) : RecordSource :=
  match i.toNat with
  | 1 => .cd
  | 2 => .video
  | 3 => .aux
  | 4 => .lineIn
  | 7 => .phone
  | _ => .mic

/-- The code of a record source (R212). -/
def RecordSource.code : RecordSource → BitVec 3
  | .mic => 0
  | .cd => 1
  | .video => 2
  | .aux => 3
  | .lineIn => 4
  | .phone => 7

/-- The left source a record-select value selects: bits 10:8 (R205). -/
def recordLeft (d : Word) : RecordSource := recordSourceOf (d.extractLsb' 8 3)

/-- The right source a record-select value selects: bits 2:0 (R205). -/
def recordRight (d : Word) : RecordSource := recordSourceOf (d.extractLsb' 0 3)

/-- What a record-select write stores: `(l << 8) | r` (R205). -/
def recordSelectValue (d : Word) : Word :=
  ((recordLeft d).code.setWidth 16 <<< 8) ||| (recordRight d).code.setWidth 16

/-- What a powerdown write stores: the ready bits 3:0 are read-only (R206). -/
def powerdownValue (old d : Word) : Word := (d &&& 0xFFF0) ||| (old &&& 0x000F)

/-- The default rate, 48000 Hz (R208). -/
def defaultRate : Word := 0xBB80

/-- The two gate bits of the Extended Audio Control register (R208): VRA and VRM. -/
def vraBit : Nat := 0
def vrmBit : Nat := 3

/-- The mixer offset of the register that gives a stream its rate (R186). -/
def rateOffset : StreamId → Nat
  | .pi => 0x32
  | .po => 0x2C
  | .mc => 0x34

/-- The gate bit of a stream's rate register (R209). -/
def rateGate : StreamId → Nat
  | .pi => vraBit
  | .po => vraBit
  | .mc => vrmBit

/-- The channel count of a stream (R186). -/
def channelsOf : StreamId → Nat
  | .pi => 2
  | .po => 2
  | .mc => 1

/-- The direction of a stream (R19, R186). -/
def directionOf (k : StreamId) : Direction := if k.isOut then .output else .input

/-- `StreamConfig(s)` (R186). -/
def streamConfigOf (mix : Bank) (k : StreamId) : StreamConfig where
  rate := (bankGet mix (mixReg (rateOffset k))).toNat
  channels := channelsOf k
  direction := directionOf k

end Sys2Proof.Machine
end

