-- ==== Sys2Proof/Machine/State.lean ====
section
/-!
DEFINITION. The state of the machine (spec/10_state.md), plain data; its reset value (R45, R239); and the reasons a
step can stop.
-/

namespace Sys2Proof.Machine

open Sys2Proof

/-- The device raises no exception and no step of it faults (R250), so there is no fault. -/
inductive Fault where
  deriving DecidableEq, Repr

/-- Why there is no meaning for what the machine is asked to run. -/
inductive Refusal where
  /-- Raised by an arm of `exec` whose instruction has no meaning yet. Safe: nothing can be proved of it. -/
  | notModelled (mnemonic : String)
  /-- Raised by `step` for a word that names no transaction of this device (R88 (a)). Safe: no host bus access
  produces such a word. -/
  | noTransaction (why : DecodeReject)
  deriving DecidableEq, Repr

/-- The whole state: the device's registers and runtime state, guest memory, the virtual clock, the platform's
parameters, and the model's own fields for what comes from and goes to the outside. -/
structure State where
  /-- `S[s]`, R23 to R30. -/
  regs : Tri StreamRegs
  /-- `RT[s]`, R37 to R41. -/
  rt : Tri StreamRuntime
  /-- `G.GLOB_CNT`, R31. -/
  globCnt : Dword
  /-- `G.GLOB_STA`, R33; INTA is a function of it (R34). -/
  globSta : Dword
  /-- `G.CAS`, R32. -/
  cas : BitVec 1
  /-- `MIX`, R35. -/
  mix : Bank
  /-- Guest memory (R61, R64): the bytes written so far, by address. -/
  mem : List Host.Cell
  /-- Guest stores issued and not yet completed, oldest first (R64, R70). None at reset: DESIGN CHOICE, unsafe there
  (notes/assumptions/5.md). -/
  racing : List Host.Cell
  /-- `VNOW`, R180. -/
  vnow : BitVec 64
  /-- The parameters of R12, `CODEC_MODEL` among them (R36). No step changes them. -/
  cfg : Platform
  /-- What the last port read returned (R16). -/
  result : PortResult
  /-- The steps the environment has scheduled, next first (R255). -/
  pending : List Event
  /-- The host's answers for the step that runs (R230, R232): written by every step before it is read. -/
  host : Tri HostAnswers
  /-- The counter that makes each draw a fresh one (R64, R230). -/
  draws : Nat
  /-- What the device has sent to the host, newest first (R185, R187, R213, R231, R236). -/
  hostLog : List HostCall
  deriving DecidableEq, Repr

/-- A stream's registers after construction (R45): halted, everything else 0. -/
def StreamRegs.reset : StreamRegs where
  bdbar := 0
  civ := 0
  lvi := 0
  sr := 0x0001
  picb := 0
  piv := 0
  cr := 0x00
  bdValid := false
  bdAddr := 0
  bdCtl := 0

/-- A stream's runtime state after construction: every field zero (R239). -/
def StreamRuntime.reset : StreamRuntime where
  enabled := false
  ring := []
  ringCap := 0
  config := ⟨0, 0, .input⟩
  timerHz := 0
  bytesPerTick := 0
  ticksPerPeriod := 0
  armed := false
  deadline := 0
  last := 0
  workerExists := false
  workerEnabled := false
  workerSignalled := false
  workerShutdown := false

/-- Answers of a host that gives nothing; no step reads them (notes/assumptions/2.md). -/
def HostAnswers.silent : HostAnswers where
  openOk := false
  active := false
  writable := 0
  accepts := 0
  readable := 0
  supplies := []

/-- The machine after construction and device reset on the platform `p` (R45, R239); the reset of the codec ends with a
record select of 0 (R224). No guest store is in flight: DESIGN CHOICE, notes/assumptions/5.md. -/
def State.construct (p : Platform) : State where
  regs := ⟨StreamRegs.reset, StreamRegs.reset, StreamRegs.reset⟩
  rt := ⟨StreamRuntime.reset, StreamRuntime.reset, StreamRuntime.reset⟩
  globCnt := 0
  globSta := 0
  cas := 0
  mix := bankSet (mixerResetFor p) (mixReg 0x1A) (recordSelectValue 0)
  mem := []
  racing := []
  vnow := 0
  cfg := p
  result := .none
  pending := []
  host := ⟨HostAnswers.silent, HostAnswers.silent, HostAnswers.silent⟩
  draws := 0
  hostLog := []

/-- The machine right after reset, on the platform of the spec's suggested parameter values. -/
def State.reset : State := State.construct Platform.suggested

end Sys2Proof.Machine
end

