-- ==== Sys2Proof/Machine/Operands.lean ====
section
/-!
DEFINITION. Operand forms: what a read assembles (spec/30_encoding.md R83, R88 (b)), which bits of a write's data a
register keeps (R86), and the fields of a buffer descriptor (R85).
-/

namespace Sys2Proof.Machine

open Sys2Proof

/-- R23, R86: a base keeps `D & 0xFFFFFFFC`. -/
def bdbarOperand (d : Dword) : Dword := d &&& 0xFFFFFFFC

/-- R25, R86: an index keeps `D mod 32`. -/
def lviOperand (d : Byte) : BitVec 5 := d.setWidth 5

/-- R29, R86: a control write keeps `D & CR_VALID`. -/
def crOperand (d : Byte) : Byte := d &&& 0x1F

/-- R110: a byte write to SR stands for the word with bits 15:8 zero. -/
def srByteOperand (d : Byte) : Word := d.setWidth 16

/-- `GC_VALID` (R31). -/
def gcValid : Dword := 0x0000003F

/-- R118: is one of the cold (bit 1) and warm (bit 2) reset bits set? -/
def globCntResets (d : Dword) : Bool := d &&& 0x6 != 0

/-- R118, R86: GLOB_CNT keeps `D & GC_VALID`. -/
def globCntOperand (d : Dword) : Dword := d &&& gcValid

/-- R83, R106: `SR << 16 | LVI << 8 | CIV`. -/
def packIndex (r : StreamRegs) : Dword :=
  (r.sr.setWidth 32 <<< 16) ||| (r.lvi.setWidth 32 <<< 8) ||| r.civ.setWidth 32

/-- R83, R121: `CR << 24 | PIV << 16 | PICB`. -/
def packPosition (r : StreamRegs) : Dword :=
  (r.cr.setWidth 32 <<< 24) ||| (r.piv.setWidth 32 <<< 16) ||| r.picb.setWidth 32

/-- An unsupported read returns all ones of its width (R88 (b), R101, R196). -/
def onesByte : PortResult := .byte (BitVec.allOnes 8)
def onesWord : PortResult := .word (BitVec.allOnes 16)
def onesDword : PortResult := .dword (BitVec.allOnes 32)

/-- A little-endian dword from its bytes in address order (R60); bytes that are not there count as 0. -/
def dwordOfBytes (bytes : List Byte) : Dword :=
  ((bytes.getD 3 0) ++ (bytes.getD 2 0) ++ (bytes.getD 1 0) ++ (bytes.getD 0 0) : BitVec 32)

/-- R85, R140: the cached address, bits 1:0 cleared. -/
def bdAddrOf (w0 : Dword) : Addr := w0 &&& 0xFFFFFFFC

/-- R85: the length of a descriptor, in samples. -/
def bdLength (w1 : Dword) : Word := w1.extractLsb' 0 16

/-- R85: the interrupt-on-completion flag, bit 31. -/
def bdIoc (w1 : Dword) : Bool := w1.getLsbD 31

/-- R85: the buffer-underrun-policy flag, bit 30. No guest-visible rule reads it (R153 (d)). -/
def bdBup (w1 : Dword) : Bool := w1.getLsbD 30

/-- R63, R140: where the entry at the current index lies. -/
def entryAddr (r : StreamRegs) : Addr := r.bdbar + 8 * r.civ.setWidth 32

end Sys2Proof.Machine
end

