-- ==== Sys2Proof/Machine/Flags.lean ====
section
/-!
DEFINITION. The flag computations: the bits of SR, CR and GLOB_STA (spec/10_state.md R27, R29, R33), the write-one-to-
clear rule (R116), the contribution of a stream to GLOB_STA (R170) and the interrupt line (R171).
-/

namespace Sys2Proof.Machine

open Sys2Proof

/-- SR bit 0, controller halted (R27). -/
def srDCH : Word := 0x0001

/-- SR bit 1, current equals last valid (R27). -/
def srCELV : Word := 0x0002

/-- SR bit 2, last valid buffer completion interrupt (R27). -/
def srLVBCI : Word := 0x0004

/-- SR bit 3, buffer completion interrupt status (R27). -/
def srBCIS : Word := 0x0008

/-- `SR_RO` (R27). -/
def srRO : Word := 0xFFE3

/-- `SR_W1C` (R27). -/
def srW1C : Word := 0x001C

/-- `SR_INT` (R27): LVBCI, BCIS, FIFOE. -/
def srINT : Word := 0x001C

/-- Is the stream halted (DCH = 1)? -/
def isHalted (sr : Word) : Bool := sr.getLsbD 0

/-- Is a completion not yet acknowledged (BCIS = 1)? -/
def isCompletionPending (sr : Word) : Bool := sr.getLsbD 3

/-- CR bit 0, run/pause bus master (R29). -/
def crRuns (cr : Byte) : Bool := cr.getLsbD 0

/-- CR bit 1, reset registers (R29). -/
def crResets (cr : Byte) : Bool := cr.getLsbD 1

/-- CR bit 2, last valid buffer interrupt enable (R29). -/
def crLVBIE (cr : Byte) : Bool := cr.getLsbD 2

/-- CR bit 4, interrupt on completion enable (R29). -/
def crIOCE (cr : Byte) : Bool := cr.getLsbD 4

/-- `CR_KEEP_ON_RR` (R29): what a stream reset keeps. -/
def crKeepOnReset (cr : Byte) : Byte := cr &&& 0x1C

/-- SR with DCH and CELV cleared: start (R113) and LVI restart (R108). -/
def srResumed (sr : Word) : Word := sr &&& ~~~0x0003

/-- SR with DCH set: stop (R112). -/
def srStopped (sr : Word) : Word := sr ||| srDCH

/-- `WriteStatus` (R116): the value a guest write asks for, before `UpdateStatus`. -/
def srWritten (sr d : Word) : Word :=
  (sr ||| (d &&& ~~~(srRO ||| srW1C))) &&& ~~~(d &&& srW1C)

/-- The status a completion asks for (R153): BCIS where the descriptor has IOC, and DCH, LVBCI, CELV at the last valid
index. -/
def srCompleted (sr : Word) (ioc underrun : Bool) : Word :=
  let v := if ioc then sr ||| srBCIS else sr
  if underrun then v ||| srDCH ||| srLVBCI ||| srCELV else v

/-- `GS_STREAM[s]` (R33): PIINT, POINT, MINT. -/
def gsStream : StreamId → Dword
  | .pi => 0x20
  | .po => 0x40
  | .mc => 0x80

/-- `GS_VALID` (R33). -/
def gsValid : Dword := 0x0003FFFF

/-- `GS_W1C` (R33). -/
def gsW1C : Dword := 0x00008C01

/-- `GS_RO` (R33). -/
def gsRO : Dword := 0x000073FE

/-- GLOB_STA after a guest write (R124). -/
def globStaWritten (g d : Dword) : Dword :=
  (g &&& ~~~(d &&& gsW1C)) ||| ((d &&& ~~~(gsW1C ||| gsRO)) &&& gsValid)

/-- What a GLOB_STA read returns: S0CR is always reported (R117). -/
def globStaRead (g : Dword) : Dword := g ||| 0x00000100

/-- Does a set interrupt bit have its enable: LVBCI with LVBIE, or BCIS with IOCE (R170)? -/
def qualifies (new : Word) (cr : Byte) : Bool :=
  (new.getLsbD 2 && crLVBIE cr) || (new.getLsbD 3 && crIOCE cr)

/-- GLOB_STA after `UpdateStatus(s, v)` from status `sr` with control `cr` (R170). -/
def contribution (k : StreamId) (sr v : Word) (cr : Byte) (g : Dword) : Dword :=
  let old := sr &&& srINT
  let new := v &&& srINT
  if new = old then g
  else if new = 0 then g &&& ~~~(gsStream k)
  else if qualifies new cr then g ||| gsStream k
  else g

/-- `INTA` (R34, R171): the level of the interrupt line, the OR of GLOB_STA bits 7:5. -/
def State.inta (s : State) : Bool := s.globSta &&& 0xE0 != 0

end Sys2Proof.Machine
end

