-- ==== Sys2Proof/Machine/Memory.lean ====
section
/-!
DEFINITION. Guest memory as the device sees it (spec/20_memory.md R60 to R66, R70): a canonical list of written bytes,
free values for what is not backed or not written, and byte stores in flight.
-/

namespace Sys2Proof.Machine

open Sys2Proof

/-- The byte listed at an address. -/
def cellLookup : List Host.Cell → Nat → Option Byte
  | [], _ => none
  | (x, b) :: m, a => if x = a then some b else cellLookup m a

/-- The list with the byte at an address set, addresses kept rising. -/
def cellInsert : List Host.Cell → Nat → Byte → List Host.Cell
  | [], a, b => [(a, b)]
  | (x, c) :: m, a, b =>
    if a < x then (a, b) :: (x, c) :: m
    else if a = x then (a, b) :: m
    else (x, c) :: cellInsert m a b

/-- The canonical form: addresses strictly rising and inside the 32-bit space (R11). An unlisted address reads as a
free value, so no entry can equal it. -/
abbrev Memory.wf (m : List Host.Cell) : Prop :=
  m.Pairwise (fun p q => p.1 < q.1) ∧ ∀ p ∈ m, p.1 < 2 ^ 32

/-- Does the platform back the address with RAM (R64)? -/
def State.isRam (s : State) (a : Nat) : Bool := s.cfg.ram.any (·.contains a)

/-- The byte last written at an address, where the platform backs it and something has written it (R64). -/
def State.guestByte (s : State) (a : Nat) : Option Byte :=
  if s.isRam a then cellLookup s.mem a else none

/-- The values of the stores in flight to an address, oldest first (R64, R70). -/
def State.storesTo (s : State) (a : Nat) : List Byte :=
  s.racing.filterMap fun c => if c.1 = a then some c.2 else none

/-- Byte `i` of a device read, at address `a` (R64): what was last written there; a draw where there is nothing or no
RAM; and where guest stores race the read, any of the old and new bytes (I19). -/
def State.readByte (s : State) (i a : Nat) : Byte :=
  let old := (s.guestByte a).getD (Config.memDraw s.draws i)
  if s.isRam a then
    match s.storesTo a with
    | [] => old
    | new => (old :: new).getD (Config.raceDraw s.draws i % (new.length + 1)) old
  else old

/-- `MemRead(a, n)` (R15): the bytes in address order, addresses wrapping mod 2^32 (R63). -/
def State.memRead (s : State) (a : Addr) (n : Nat) : List Byte :=
  (List.range n).map fun i => s.readByte i (a + BitVec.ofNat 32 i).toNat

/-- The next read's draws are fresh. -/
def State.nextDraw (s : State) : State := { s with draws := s.draws + 1 }

/-- A byte store that reaches memory: a store to an unbacked address has no effect (R64). -/
def State.writeByte (s : State) (a : Nat) (b : Byte) : State :=
  if s.isRam a then { s with mem := cellInsert s.mem a b } else s

/-- `MemWrite(a, n, bytes)` (R15), addresses wrapping mod 2^32 (R63). -/
def memWrite : List Byte → Addr → State → State
  | [], _, s => s
  | b :: bs, a, s => memWrite bs (a + 1) (s.writeByte a.toNat b)

end Sys2Proof.Machine
end

