-- ==== Sys2Proof/Machine/Ops.lean ====
section
/-!
DEFINITION. The shared operations: updates of one stream, of a codec register and of the host log; descriptor fetch and
advance (spec/41_bdl_fetch.md); `UpdateStatus`, which is this device's taking of an interrupt (spec/43_status_interrupt.md);
the scheduler's enable, disable and reopen (spec/44_scheduler.md); and the two resets (spec/70_reset_and_hazards.md).
-/

namespace Sys2Proof.Machine

open Sys2Proof

/-! ## Updates -/

/-- One stream's registers changed. -/
def State.modRegs (s : State) (k : StreamId) (f : StreamRegs → StreamRegs) : State :=
  { s with regs := s.regs.set k (f (s.regs.get k)) }

/-- One stream's runtime state changed. -/
def State.modRt (s : State) (k : StreamId) (f : StreamRuntime → StreamRuntime) : State :=
  { s with rt := s.rt.set k (f (s.rt.get k)) }

/-- The value a port read returns (R16). -/
def State.answer (s : State) (r : PortResult) : State := { s with result := r }

/-- The device calls the host. -/
def State.logHost (s : State) (c : HostCall) : State := { s with hostLog := c :: s.hostLog }

/-- `MIX[off]` (R195). -/
def State.mixAt (s : State) (off : Nat) : Word := bankGet s.mix (mixReg off)

/-- A codec register written (R195). -/
def State.setMix (s : State) (r : BitVec 7) (v : Word) : State := { s with mix := bankSet s.mix r v }

/-- A codec access sets the semaphore free (R197, R198). -/
def State.freeSemaphore (s : State) : State := { s with cas := 0 }

/-! ## Ring buffers -/

/-- `RingUsed` (R15). -/
def ringUsed (rt : StreamRuntime) : Nat := rt.ring.length

/-- `RingFree` (R15). -/
def ringFree (rt : StreamRuntime) : Nat := rt.ringCap - rt.ring.length

/-- `RingPush` (R15): append at the tail. -/
def ringPush (bytes : List Byte) (rt : StreamRuntime) : StreamRuntime := { rt with ring := rt.ring ++ bytes }

/-- `RingPop` (R15): remove `n` bytes from the head. -/
def ringPop (n : Nat) (rt : StreamRuntime) : StreamRuntime := { rt with ring := rt.ring.drop n }

/-! ## Descriptors -/

/-- `FetchBDLE(s)` (R140): one 8-byte read of the entry at CIV into the cache, and PICB from its length. -/
def fetchBdle (k : StreamId) (s : State) : State :=
  let bytes := s.memRead (entryAddr (s.regs.get k)) 8
  let w1 := dwordOfBytes (bytes.drop 4)
  s.nextDraw.modRegs k fun r =>
    { r with
      bdAddr := bdAddrOf (dwordOfBytes bytes)
      bdCtl := w1
      picb := bdLength w1
      bdValid := true }

/-- `Advance(s)` (R141). -/
def advance (k : StreamId) (s : State) : State :=
  fetchBdle k (s.modRegs k fun r => { r with civ := r.piv, piv := r.piv + 1 })

/-! ## The interrupt -/

/-- `UpdateStatus(s, v)` (R170): SR takes the value, and the stream's contribution to GLOB_STA follows the interrupt
bits. The line is `State.inta`, a function of GLOB_STA (R34, R171). -/
def updateStatus (k : StreamId) (v : Word) (s : State) : State :=
  let r := s.regs.get k
  { s with
    regs := s.regs.set k { r with sr := v }
    globSta := contribution k r.sr v r.cr s.globSta }

/-! ## The scheduler -/

/-- An addition on the 64-bit virtual clock that stops at its largest value (DESIGN CHOICE, notes/assumptions/8.md;
unsafe there): never below `a`, so never early (R188). -/
def clockAdd (a : BitVec 64) (n : Nat) : BitVec 64 :=
  if a.toNat + n < 2 ^ 64 then BitVec.ofNat 64 (a.toNat + n) else BitVec.allOnes 64

/-- `TIMER_HZ` (R181). -/
def timerHzFor (p : Platform) (rate : Nat) : Nat :=
  match p.timerHzOverride with
  | some f => f
  | none => if rate > 44100 then p.timerHzHigh else p.timerHzDefault

/-- Bytes per frame: channels of 2-byte samples (R10, R182). -/
def frameBytes (c : StreamConfig) : Nat := c.channels * 2

/-- `ticks_for(b)` (R182). -/
def ticksFor (p : Platform) (c : StreamConfig) (b : Nat) : Nat :=
  b * p.vclockHz / (c.rate * frameBytes c)

/-- `BYTES_PER_TICK` (R182): whole frames. -/
def bytesPerTickFor (c : StreamConfig) (timerHz : Nat) : Nat :=
  c.rate * frameBytes c / timerHz - c.rate * frameBytes c / timerHz % frameBytes c

/-- `TICKS_PER_PERIOD` (R182). -/
def ticksPerPeriodFor (p : Platform) (timerHz : Nat) : Nat := p.vclockHz / timerHz

/-- The frequency and period quantities of the stream's configuration (R181, R182). -/
def withPeriods (p : Platform) (rt : StreamRuntime) : StreamRuntime :=
  let hz := timerHzFor p rt.config.rate
  { rt with
    timerHz := hz
    bytesPerTick := bytesPerTickFor rt.config hz
    ticksPerPeriod := ticksPerPeriodFor p hz }

/-- Arm the timer one period from now (R185, R190). -/
def armOnePeriod (now : BitVec 64) (rt : StreamRuntime) : StreamRuntime :=
  { rt with deadline := clockAdd now rt.ticksPerPeriod, armed := true }

/-- The default that R189 suggests for `NextDelay(s)`. -/
def suggestedDelayFor (p : Platform) (r : StreamRegs) (rt : StreamRuntime) : Nat :=
  let b := min rt.bytesPerTick (2 * r.picb.toNat)
  if 0 < b ∧ 0 < rt.config.rate then ticksFor p rt.config b else rt.ticksPerPeriod

/-- `NextDelay(s)` (R189). -/
def nextDelay (p : Platform) (r : StreamRegs) (rt : StreamRuntime) : Nat :=
  if p.suggestedDelay then suggestedDelayFor p r rt else Config.nextDelay r rt

/-- The worker is created at the first enable and enabled (R185, R233). -/
def workerEnable (rt : StreamRuntime) : StreamRuntime :=
  { rt with workerExists := true, workerEnabled := true }

/-- The worker is disabled, not destroyed (R187). -/
def workerDisable (rt : StreamRuntime) : StreamRuntime := { rt with workerEnabled := false }

/-- What a successful open does to the runtime state (R185). -/
def openRuntime (p : Platform) (k : StreamId) (now : BitVec 64) (rt : StreamRuntime) : StreamRuntime :=
  let opened := armOnePeriod now (withPeriods p { rt with ring := [], ringCap := p.ringCap.get k, enabled := true })
  if p.asyncMode then workerEnable opened else opened

/-- What a disable does to the runtime state (R187). -/
def closeRuntime (p : Platform) (rt : StreamRuntime) : StreamRuntime :=
  let closed := { rt with armed := false, ring := [], enabled := false }
  if p.asyncMode then workerDisable closed else closed

/-- `Enable(s)` (R185). Where the open fails the stream stays disabled (R232). -/
def enable (k : StreamId) (s : State) : State :=
  if (s.rt.get k).enabled then s
  else
    let c := streamConfigOf s.mix k
    let s1 := (s.modRt k fun rt => { rt with config := c }).logHost (.openStream k c)
    if (s.host.get k).openOk then s1.modRt k (openRuntime s.cfg k s.vnow) else s1

/-- `Disable(s)` (R187). -/
def disable (k : StreamId) (s : State) : State :=
  (s.modRt k (closeRuntime s.cfg)).logHost (.closeStream k)

/-- `Reopen(s)` (R190). DEDUCED: a successful reopen arms the timer too, as D36 says (notes/assumptions/9.md; unsafe
only for a timer that was disarmed). -/
def reopen (k : StreamId) (s : State) : State :=
  if (s.rt.get k).enabled then
    let c := streamConfigOf s.mix k
    let s1 :=
      ((s.logHost (.closeStream k)).modRt k fun rt => { rt with ring := [], config := c }).logHost (.openStream k c)
    if (s.host.get k).openOk then s1.modRt k fun rt => armOnePeriod s.vnow (withPeriods s.cfg rt)
    else disable k s1
  else s

/-! ## Resets -/

/-- `StreamReset(s)` (R272). -/
def streamReset (k : StreamId) (s : State) : State :=
  let s1 := (disable k s).modRegs k fun r => { r with bdbar := 0, civ := 0, lvi := 0 }
  (updateStatus k 0x0001 s1).modRegs k fun r =>
    { r with
      picb := 0
      piv := 0
      cr := crKeepOnReset r.cr
      bdValid := false
      bdAddr := 0
      bdCtl := 0 }

/-- The host volume of the codec register at `off` (R201, R202, R210). -/
def sendVolume (c : VolumeControl) (off : Nat) (s : State) : State :=
  s.logHost (.setVolume c (volumeOf s.cfg.volMax (s.mixAt off)))

/-- The host gain of the codec register at `off` (R204, R211). -/
def sendGain (c : VolumeControl) (off : Nat) (s : State) : State :=
  s.logHost (.setVolume c (gainOf s.cfg.volMax (s.mixAt off)))

/-- The host volume updates of R224 and R237: Master, Mic, Line In, PCM Out. -/
def sendVolumes (s : State) : State :=
  sendVolume .front 0x18 (sendVolume .lineIn 0x10 (sendVolume .micIn 0x0E (sendVolume .master 0x02 s)))

/-- R205: store the selection and tell the host. -/
def selectRecordSource (d : Word) (s : State) : State :=
  (s.setMix (mixReg 0x1A) (recordSelectValue d)).logHost (.setRecordingSource (recordLeft d) (recordRight d))

/-- `DeviceReset()` (R270), with the host updates of R224. -/
def deviceReset (s : State) : State :=
  let s1 := streamReset .mc (streamReset .po (streamReset .pi s))
  sendVolumes (selectRecordSource 0
    { s1 with globCnt := 0, globSta := 0, cas := 0, mix := mixerResetFor s1.cfg })

end Sys2Proof.Machine
end

