-- ==== Sys2Proof/Machine/BusMaster.lean ====
section
/-!
DEFINITION. The register accesses of the bus-master region, one operation per rule of spec/40_nabm_access.md; the
instructions of `Machine/Nabm.lean` call them with their stream.
-/

namespace Sys2Proof.Machine

open Sys2Proof

/-- R102. -/
def readBdbar (k : StreamId) (s : State) : State := s.answer (.dword (s.regs.get k).bdbar)

/-- R103: only BDBAR changes. -/
def writeBdbar (k : StreamId) (d : Dword) (s : State) : State :=
  s.modRegs k fun r => { r with bdbar := bdbarOperand d }

/-- R104. -/
def readCiv (k : StreamId) (s : State) : State := s.answer (.byte ((s.regs.get k).civ.setWidth 8))

/-- R106. -/
def readIndices (k : StreamId) (s : State) : State := s.answer (.dword (packIndex (s.regs.get k)))

/-- R107. -/
def readLvi (k : StreamId) (s : State) : State := s.answer (.byte ((s.regs.get k).lvi.setWidth 8))

/-- R108: a write to a running, halted stream restarts it before the new index is taken. -/
def writeLvi (k : StreamId) (d : Byte) (s : State) : State :=
  let r := s.regs.get k
  let s1 :=
    if crRuns r.cr && isHalted r.sr then advance k (s.modRegs k fun r => { r with sr := srResumed r.sr })
    else s
  s1.modRegs k fun r => { r with lvi := lviOperand d }

/-- R109. -/
def readSr (k : StreamId) (s : State) : State := s.answer (.word (s.regs.get k).sr)

/-- R110, read. -/
def readSrByte (k : StreamId) (s : State) : State := s.answer (.byte ((s.regs.get k).sr.extractLsb' 0 8))

/-- R116, `WriteStatus`. -/
def writeSr (k : StreamId) (d : Word) (s : State) : State :=
  updateStatus k (srWritten (s.regs.get k).sr d) s

/-- R110, write. -/
def writeSrByte (k : StreamId) (d : Byte) (s : State) : State := writeSr k (srByteOperand d) s

/-- R120. -/
def readPicb (k : StreamId) (s : State) : State := s.answer (.word (s.regs.get k).picb)

/-- R121. -/
def readPosition (k : StreamId) (s : State) : State := s.answer (.dword (packPosition (s.regs.get k)))

/-- R122. -/
def readPiv (k : StreamId) (s : State) : State := s.answer (.byte ((s.regs.get k).piv.setWidth 8))

/-- R115. -/
def readCr (k : StreamId) (s : State) : State := s.answer (.byte (s.regs.get k).cr)

/-- R112, stop. -/
def stopStream (k : StreamId) (d : Byte) (s : State) : State :=
  (disable k (s.modRegs k fun r => { r with cr := crOperand d })).modRegs k fun r => { r with sr := srStopped r.sr }

/-- R113, start. -/
def startStream (k : StreamId) (d : Byte) (s : State) : State :=
  enable k (advance k (s.modRegs k fun r => { r with cr := crOperand d, sr := srResumed r.sr }))

/-- A CR write is exactly one of R111 to R114, tested in that order. -/
def writeCr (k : StreamId) (d : Byte) (s : State) : State :=
  if crResets d then streamReset k s
  else if !crRuns d then stopStream k d s
  else if isHalted (s.regs.get k).sr then startStream k d s
  else s.modRegs k fun r => { r with cr := crOperand d }

/-- R123. -/
def readGlobCnt (s : State) : State := s.answer (.dword s.globCnt)

/-- R118: a write with a reset bit stores nothing and resets nothing. -/
def writeGlobCnt (d : Dword) (s : State) : State :=
  if globCntResets d then s else { s with globCnt := globCntOperand d }

/-- R117. -/
def readGlobSta (s : State) : State := s.answer (.dword (globStaRead s.globSta))

/-- R124. -/
def writeGlobSta (d : Dword) (s : State) : State := { s with globSta := globStaWritten s.globSta d }

/-- R119: the read returns the flag and sets it free. -/
def readCas (s : State) : State := (s.answer (.byte (s.cas.setWidth 8))).freeSemaphore

/-- R105, R125, R101: a write with no effect. -/
def ignoreWrite (s : State) : State := s

/-- R101, R196: an unsupported read. -/
def unsupportedRead (ones : PortResult) (s : State) : State := s.answer ones

end Sys2Proof.Machine
end

