-- ==== Sys2Proof/Machine/Nabm.lean ====
section
/-!
DEFINITION. The meaning of every transaction of the bus-master (NABM) region, one definition per row of spec/opcode_table.json.
No transaction stops: no port access faults (spec/60_exceptions.md R250).
-/

namespace Sys2Proof.Machine

open Sys2Proof

/-- `IN32 NABM PI_BDBAR` (R102). -/
def execIn32NabmPiBdbar (s : State) : Host.Outcome State Fault Refusal :=
  .next (readBdbar .pi s)

/-- `OUT32 NABM PI_BDBAR` (R103). -/
def execOut32NabmPiBdbar (d : BitVec 32) (s : State) : Host.Outcome State Fault Refusal :=
  .next (writeBdbar .pi d s)

/-- `IN8 NABM PI_CIV` (R104). -/
def execIn8NabmPiCiv (s : State) : Host.Outcome State Fault Refusal :=
  .next (readCiv .pi s)

/-- `OUT8 NABM PI_CIV` (R105). -/
def execOut8NabmPiCiv (_d : BitVec 8) (s : State) : Host.Outcome State Fault Refusal :=
  .next (ignoreWrite s)

/-- `IN32 NABM PI_CIV (packed SR:LVI:CIV)` (R106). -/
def execIn32NabmPiCiv (s : State) : Host.Outcome State Fault Refusal :=
  .next (readIndices .pi s)

/-- `IN8 NABM PI_LVI` (R107). -/
def execIn8NabmPiLvi (s : State) : Host.Outcome State Fault Refusal :=
  .next (readLvi .pi s)

/-- `OUT8 NABM PI_LVI` (R108). -/
def execOut8NabmPiLvi (d : BitVec 8) (s : State) : Host.Outcome State Fault Refusal :=
  .next (writeLvi .pi d s)

/-- `IN16 NABM PI_SR` (R109). -/
def execIn16NabmPiSr (s : State) : Host.Outcome State Fault Refusal :=
  .next (readSr .pi s)

/-- `IN8 NABM PI_SR` (R110). -/
def execIn8NabmPiSr (s : State) : Host.Outcome State Fault Refusal :=
  .next (readSrByte .pi s)

/-- `OUT8 NABM PI_SR` (R110). -/
def execOut8NabmPiSr (d : BitVec 8) (s : State) : Host.Outcome State Fault Refusal :=
  .next (writeSrByte .pi d s)

/-- `OUT16 NABM PI_SR` (R116). -/
def execOut16NabmPiSr (d : BitVec 16) (s : State) : Host.Outcome State Fault Refusal :=
  .next (writeSr .pi d s)

/-- `IN16 NABM PI_PICB` (R120). -/
def execIn16NabmPiPicb (s : State) : Host.Outcome State Fault Refusal :=
  .next (readPicb .pi s)

/-- `OUT16 NABM PI_PICB` (R105). -/
def execOut16NabmPiPicb (_d : BitVec 16) (s : State) : Host.Outcome State Fault Refusal :=
  .next (ignoreWrite s)

/-- `IN32 NABM PI_PICB (packed CR:PIV:PICB)` (R121). -/
def execIn32NabmPiPicb (s : State) : Host.Outcome State Fault Refusal :=
  .next (readPosition .pi s)

/-- `IN8 NABM PI_PIV` (R122). -/
def execIn8NabmPiPiv (s : State) : Host.Outcome State Fault Refusal :=
  .next (readPiv .pi s)

/-- `OUT8 NABM PI_PIV` (R105). -/
def execOut8NabmPiPiv (_d : BitVec 8) (s : State) : Host.Outcome State Fault Refusal :=
  .next (ignoreWrite s)

/-- `IN8 NABM PI_CR` (R115). -/
def execIn8NabmPiCr (s : State) : Host.Outcome State Fault Refusal :=
  .next (readCr .pi s)

/-- `OUT8 NABM PI_CR` (R111, R112, R113, R114). -/
def execOut8NabmPiCr (d : BitVec 8) (s : State) : Host.Outcome State Fault Refusal :=
  .next (writeCr .pi d s)

/-- `IN32 NABM PO_BDBAR` (R102). -/
def execIn32NabmPoBdbar (s : State) : Host.Outcome State Fault Refusal :=
  .next (readBdbar .po s)

/-- `OUT32 NABM PO_BDBAR` (R103). -/
def execOut32NabmPoBdbar (d : BitVec 32) (s : State) : Host.Outcome State Fault Refusal :=
  .next (writeBdbar .po d s)

/-- `IN8 NABM PO_CIV` (R104). -/
def execIn8NabmPoCiv (s : State) : Host.Outcome State Fault Refusal :=
  .next (readCiv .po s)

/-- `OUT8 NABM PO_CIV` (R105). -/
def execOut8NabmPoCiv (_d : BitVec 8) (s : State) : Host.Outcome State Fault Refusal :=
  .next (ignoreWrite s)

/-- `IN32 NABM PO_CIV (packed SR:LVI:CIV)` (R106). -/
def execIn32NabmPoCiv (s : State) : Host.Outcome State Fault Refusal :=
  .next (readIndices .po s)

/-- `IN8 NABM PO_LVI` (R107). -/
def execIn8NabmPoLvi (s : State) : Host.Outcome State Fault Refusal :=
  .next (readLvi .po s)

/-- `OUT8 NABM PO_LVI` (R108). -/
def execOut8NabmPoLvi (d : BitVec 8) (s : State) : Host.Outcome State Fault Refusal :=
  .next (writeLvi .po d s)

/-- `IN16 NABM PO_SR` (R109). -/
def execIn16NabmPoSr (s : State) : Host.Outcome State Fault Refusal :=
  .next (readSr .po s)

/-- `IN8 NABM PO_SR` (R110). -/
def execIn8NabmPoSr (s : State) : Host.Outcome State Fault Refusal :=
  .next (readSrByte .po s)

/-- `OUT8 NABM PO_SR` (R110). -/
def execOut8NabmPoSr (d : BitVec 8) (s : State) : Host.Outcome State Fault Refusal :=
  .next (writeSrByte .po d s)

/-- `OUT16 NABM PO_SR` (R116). -/
def execOut16NabmPoSr (d : BitVec 16) (s : State) : Host.Outcome State Fault Refusal :=
  .next (writeSr .po d s)

/-- `IN16 NABM PO_PICB` (R120). -/
def execIn16NabmPoPicb (s : State) : Host.Outcome State Fault Refusal :=
  .next (readPicb .po s)

/-- `OUT16 NABM PO_PICB` (R105). -/
def execOut16NabmPoPicb (_d : BitVec 16) (s : State) : Host.Outcome State Fault Refusal :=
  .next (ignoreWrite s)

/-- `IN32 NABM PO_PICB (packed CR:PIV:PICB)` (R121). -/
def execIn32NabmPoPicb (s : State) : Host.Outcome State Fault Refusal :=
  .next (readPosition .po s)

/-- `IN8 NABM PO_PIV` (R122). -/
def execIn8NabmPoPiv (s : State) : Host.Outcome State Fault Refusal :=
  .next (readPiv .po s)

/-- `OUT8 NABM PO_PIV` (R105). -/
def execOut8NabmPoPiv (_d : BitVec 8) (s : State) : Host.Outcome State Fault Refusal :=
  .next (ignoreWrite s)

/-- `IN8 NABM PO_CR` (R115). -/
def execIn8NabmPoCr (s : State) : Host.Outcome State Fault Refusal :=
  .next (readCr .po s)

/-- `OUT8 NABM PO_CR` (R111, R112, R113, R114). -/
def execOut8NabmPoCr (d : BitVec 8) (s : State) : Host.Outcome State Fault Refusal :=
  .next (writeCr .po d s)

/-- `IN32 NABM MC_BDBAR` (R102). -/
def execIn32NabmMcBdbar (s : State) : Host.Outcome State Fault Refusal :=
  .next (readBdbar .mc s)

/-- `OUT32 NABM MC_BDBAR` (R103). -/
def execOut32NabmMcBdbar (d : BitVec 32) (s : State) : Host.Outcome State Fault Refusal :=
  .next (writeBdbar .mc d s)

/-- `IN8 NABM MC_CIV` (R104). -/
def execIn8NabmMcCiv (s : State) : Host.Outcome State Fault Refusal :=
  .next (readCiv .mc s)

/-- `OUT8 NABM MC_CIV` (R105). -/
def execOut8NabmMcCiv (_d : BitVec 8) (s : State) : Host.Outcome State Fault Refusal :=
  .next (ignoreWrite s)

/-- `IN32 NABM MC_CIV (packed SR:LVI:CIV)` (R106). -/
def execIn32NabmMcCiv (s : State) : Host.Outcome State Fault Refusal :=
  .next (readIndices .mc s)

/-- `IN8 NABM MC_LVI` (R107). -/
def execIn8NabmMcLvi (s : State) : Host.Outcome State Fault Refusal :=
  .next (readLvi .mc s)

/-- `OUT8 NABM MC_LVI` (R108). -/
def execOut8NabmMcLvi (d : BitVec 8) (s : State) : Host.Outcome State Fault Refusal :=
  .next (writeLvi .mc d s)

/-- `IN16 NABM MC_SR` (R109). -/
def execIn16NabmMcSr (s : State) : Host.Outcome State Fault Refusal :=
  .next (readSr .mc s)

/-- `IN8 NABM MC_SR` (R110). -/
def execIn8NabmMcSr (s : State) : Host.Outcome State Fault Refusal :=
  .next (readSrByte .mc s)

/-- `OUT8 NABM MC_SR` (R110). -/
def execOut8NabmMcSr (d : BitVec 8) (s : State) : Host.Outcome State Fault Refusal :=
  .next (writeSrByte .mc d s)

/-- `OUT16 NABM MC_SR` (R116). -/
def execOut16NabmMcSr (d : BitVec 16) (s : State) : Host.Outcome State Fault Refusal :=
  .next (writeSr .mc d s)

/-- `IN16 NABM MC_PICB` (R120). -/
def execIn16NabmMcPicb (s : State) : Host.Outcome State Fault Refusal :=
  .next (readPicb .mc s)

/-- `OUT16 NABM MC_PICB` (R105). -/
def execOut16NabmMcPicb (_d : BitVec 16) (s : State) : Host.Outcome State Fault Refusal :=
  .next (ignoreWrite s)

/-- `IN32 NABM MC_PICB (packed CR:PIV:PICB)` (R121). -/
def execIn32NabmMcPicb (s : State) : Host.Outcome State Fault Refusal :=
  .next (readPosition .mc s)

/-- `IN8 NABM MC_PIV` (R122). -/
def execIn8NabmMcPiv (s : State) : Host.Outcome State Fault Refusal :=
  .next (readPiv .mc s)

/-- `OUT8 NABM MC_PIV` (R105). -/
def execOut8NabmMcPiv (_d : BitVec 8) (s : State) : Host.Outcome State Fault Refusal :=
  .next (ignoreWrite s)

/-- `IN8 NABM MC_CR` (R115). -/
def execIn8NabmMcCr (s : State) : Host.Outcome State Fault Refusal :=
  .next (readCr .mc s)

/-- `OUT8 NABM MC_CR` (R111, R112, R113, R114). -/
def execOut8NabmMcCr (d : BitVec 8) (s : State) : Host.Outcome State Fault Refusal :=
  .next (writeCr .mc d s)

/-- `IN32 NABM GLOB_CNT` (R123). -/
def execIn32NabmGlobCnt (s : State) : Host.Outcome State Fault Refusal :=
  .next (readGlobCnt s)

/-- `OUT32 NABM GLOB_CNT` (R118). -/
def execOut32NabmGlobCnt (d : BitVec 32) (s : State) : Host.Outcome State Fault Refusal :=
  .next (writeGlobCnt d s)

/-- `IN32 NABM GLOB_STA` (R117). -/
def execIn32NabmGlobSta (s : State) : Host.Outcome State Fault Refusal :=
  .next (readGlobSta s)

/-- `OUT32 NABM GLOB_STA` (R124). -/
def execOut32NabmGlobSta (d : BitVec 32) (s : State) : Host.Outcome State Fault Refusal :=
  .next (writeGlobSta d s)

/-- `IN8 NABM CAS` (R119). -/
def execIn8NabmCas (s : State) : Host.Outcome State Fault Refusal :=
  .next (readCas s)

/-- `OUT8 NABM CAS` (R125). -/
def execOut8NabmCas (_d : BitVec 8) (s : State) : Host.Outcome State Fault Refusal :=
  .next (ignoreWrite s)

/-- `IN8 NABM <unsupported>` (R101). -/
def execIn8NabmUnsupported (_off : BitVec 6) (s : State) : Host.Outcome State Fault Refusal :=
  .next (unsupportedRead onesByte s)

/-- `IN16 NABM <unsupported>` (R101). -/
def execIn16NabmUnsupported (_off : BitVec 6) (s : State) : Host.Outcome State Fault Refusal :=
  .next (unsupportedRead onesWord s)

/-- `IN32 NABM <unsupported>` (R101). -/
def execIn32NabmUnsupported (_off : BitVec 6) (s : State) : Host.Outcome State Fault Refusal :=
  .next (unsupportedRead onesDword s)

/-- `OUT8 NABM <unsupported>` (R101). -/
def execOut8NabmUnsupported (_off : BitVec 6) (_d : BitVec 8) (s : State) : Host.Outcome State Fault Refusal :=
  .next (ignoreWrite s)

/-- `OUT16 NABM <unsupported>` (R101). -/
def execOut16NabmUnsupported (_off : BitVec 6) (_d : BitVec 16) (s : State) : Host.Outcome State Fault Refusal :=
  .next (ignoreWrite s)

/-- `OUT32 NABM <unsupported>` (R101). -/
def execOut32NabmUnsupported (_off : BitVec 6) (_d : BitVec 32) (s : State) : Host.Outcome State Fault Refusal :=
  .next (ignoreWrite s)

end Sys2Proof.Machine
end

