-- ==== Sys2Proof/Machine/Mixer.lean ====
section
/-!
DEFINITION. The register accesses of the mixer region, one operation per rule of spec/45_mixer.md; the instructions of
`Machine/Nam.lean` call them. Every decoded access sets the semaphore free first (R197, R198).
-/

namespace Sys2Proof.Machine

open Sys2Proof

/-- R197. -/
def readMixer (r : BitVec 7) (s : State) : State := s.freeSemaphore.answer (.word (bankGet s.mix r))

/-- R203: plain store. -/
def storeMixer (r : BitVec 7) (d : Word) (s : State) : State := s.freeSemaphore.setMix r d

/-- R200: any value resets the whole device. -/
def writeCodecReset (_ : Word) (s : State) : State := deviceReset s.freeSemaphore

/-- R201, Master Volume. -/
def writeMasterVolume (d : Word) (s : State) : State :=
  sendVolume .master 0x02 (s.freeSemaphore.setMix (mixReg 0x02) (quirkVolume d))

/-- R201, Headphone Volume: no host control. -/
def writeHeadphoneVolume (d : Word) (s : State) : State :=
  s.freeSemaphore.setMix (mixReg 0x04) (quirkVolume d)

/-- R202: a volume register with a host control, stored verbatim. -/
def writeVolume (c : VolumeControl) (off : Nat) (d : Word) (s : State) : State :=
  sendVolume c off (s.freeSemaphore.setMix (mixReg off) d)

/-- R204: a gain register, stored verbatim. -/
def writeGain (c : VolumeControl) (off : Nat) (d : Word) (s : State) : State :=
  sendGain c off (s.freeSemaphore.setMix (mixReg off) d)

/-- R205. -/
def writeRecordSelect (d : Word) (s : State) : State := selectRecordSource d s.freeSemaphore

/-- R206. -/
def writePowerdown (d : Word) (s : State) : State :=
  s.freeSemaphore.setMix (mixReg 0x26) (powerdownValue (s.mixAt 0x26) d)

/-- R207: a read-only register; the access still sets the semaphore free. -/
def writeReadOnly (_ : Word) (s : State) : State := s.freeSemaphore

/-- The default rate into a stream's rate register, and a reopen (R208). -/
def defaultStreamRate (k : StreamId) (s : State) : State :=
  reopen k (s.setMix (mixReg (rateOffset k)) defaultRate)

/-- R208. -/
def writeExtendedAudio (d : Word) (s : State) : State :=
  let s0 := s.freeSemaphore
  let s1 := if d.getLsbD vraBit then s0 else defaultStreamRate .pi (defaultStreamRate .po s0)
  let s2 := if d.getLsbD vrmBit then s1 else defaultStreamRate .mc s1
  s2.setMix (mixReg 0x2A) d

/-- R209: a rate register, written only while its gate bit is set. -/
def writeRate (k : StreamId) (d : Word) (s : State) : State :=
  let s0 := s.freeSemaphore
  if (s.mixAt 0x2A).getLsbD (rateGate k) then reopen k (s0.setMix (mixReg (rateOffset k)) d) else s0

end Sys2Proof.Machine
end

