-- ==== Sys2Proof/Machine/Nam.lean ====
section
/-!
DEFINITION. The meaning of every transaction of the mixer (NAM) region, one definition per row of spec/opcode_table.json.
No transaction stops: no port access faults (spec/60_exceptions.md R250).
-/

namespace Sys2Proof.Machine

open Sys2Proof

/-- `IN16 NAM <reg>` (R197). -/
def execIn16NamReg (reg : BitVec 7) (s : State) : Host.Outcome State Fault Refusal :=
  .next (readMixer reg s)

/-- `OUT16 NAM <reg> (plain store)` (R203). -/
def execOut16NamReg (reg : BitVec 7) (d : BitVec 16) (s : State) : Host.Outcome State Fault Refusal :=
  .next (storeMixer reg d s)

/-- `OUT16 NAM RESET` (R200). -/
def execOut16NamReset (d : BitVec 16) (s : State) : Host.Outcome State Fault Refusal :=
  .next (writeCodecReset d s)

/-- `OUT16 NAM MASTER_VOL` (R201). -/
def execOut16NamMasterVol (d : BitVec 16) (s : State) : Host.Outcome State Fault Refusal :=
  .next (writeMasterVolume d s)

/-- `OUT16 NAM HEADPHONE_VOL` (R201). -/
def execOut16NamHeadphoneVol (d : BitVec 16) (s : State) : Host.Outcome State Fault Refusal :=
  .next (writeHeadphoneVolume d s)

/-- `OUT16 NAM MIC_VOL` (R202). -/
def execOut16NamMicVol (d : BitVec 16) (s : State) : Host.Outcome State Fault Refusal :=
  .next (writeVolume .micIn 0x0E d s)

/-- `OUT16 NAM LINE_IN_VOL` (R202). -/
def execOut16NamLineInVol (d : BitVec 16) (s : State) : Host.Outcome State Fault Refusal :=
  .next (writeVolume .lineIn 0x10 d s)

/-- `OUT16 NAM PCM_OUT_VOL` (R202). -/
def execOut16NamPcmOutVol (d : BitVec 16) (s : State) : Host.Outcome State Fault Refusal :=
  .next (writeVolume .front 0x18 d s)

/-- `OUT16 NAM RECORD_SELECT` (R205). -/
def execOut16NamRecordSelect (d : BitVec 16) (s : State) : Host.Outcome State Fault Refusal :=
  .next (writeRecordSelect d s)

/-- `OUT16 NAM RECORD_GAIN` (R204). -/
def execOut16NamRecordGain (d : BitVec 16) (s : State) : Host.Outcome State Fault Refusal :=
  .next (writeGain .lineInRec 0x1C d s)

/-- `OUT16 NAM RECORD_GAIN_MIC` (R204). -/
def execOut16NamRecordGainMic (d : BitVec 16) (s : State) : Host.Outcome State Fault Refusal :=
  .next (writeGain .micRec 0x1E d s)

/-- `OUT16 NAM POWERDOWN` (R206). -/
def execOut16NamPowerdown (d : BitVec 16) (s : State) : Host.Outcome State Fault Refusal :=
  .next (writePowerdown d s)

/-- `OUT16 NAM EXT_AUDIO_ID` (R207). -/
def execOut16NamExtAudioId (d : BitVec 16) (s : State) : Host.Outcome State Fault Refusal :=
  .next (writeReadOnly d s)

/-- `OUT16 NAM EXT_AUDIO_CTRL` (R208). -/
def execOut16NamExtAudioCtrl (d : BitVec 16) (s : State) : Host.Outcome State Fault Refusal :=
  .next (writeExtendedAudio d s)

/-- `OUT16 NAM PCM_FRONT_DAC_RATE` (R209). -/
def execOut16NamPcmFrontDacRate (d : BitVec 16) (s : State) : Host.Outcome State Fault Refusal :=
  .next (writeRate .po d s)

/-- `OUT16 NAM PCM_LR_ADC_RATE` (R209). -/
def execOut16NamPcmLrAdcRate (d : BitVec 16) (s : State) : Host.Outcome State Fault Refusal :=
  .next (writeRate .pi d s)

/-- `OUT16 NAM MIC_ADC_RATE` (R209). -/
def execOut16NamMicAdcRate (d : BitVec 16) (s : State) : Host.Outcome State Fault Refusal :=
  .next (writeRate .mc d s)

/-- `OUT16 NAM VENDOR_ID1` (R207). -/
def execOut16NamVendorId1 (d : BitVec 16) (s : State) : Host.Outcome State Fault Refusal :=
  .next (writeReadOnly d s)

/-- `OUT16 NAM VENDOR_ID2` (R207). -/
def execOut16NamVendorId2 (d : BitVec 16) (s : State) : Host.Outcome State Fault Refusal :=
  .next (writeReadOnly d s)

/-- `IN8 NAM <unsupported width>` (R196). -/
def execIn8NamUnsupported (_off : BitVec 8) (s : State) : Host.Outcome State Fault Refusal :=
  .next (unsupportedRead onesByte s)

/-- `IN32 NAM <unsupported width>` (R196). -/
def execIn32NamUnsupported (_off : BitVec 8) (s : State) : Host.Outcome State Fault Refusal :=
  .next (unsupportedRead onesDword s)

/-- `OUT8 NAM <unsupported width>` (R196). -/
def execOut8NamUnsupported (_off : BitVec 8) (_d : BitVec 8) (s : State) : Host.Outcome State Fault Refusal :=
  .next (ignoreWrite s)

/-- `OUT32 NAM <unsupported width>` (R196). -/
def execOut32NamUnsupported (_off : BitVec 8) (_d : BitVec 32) (s : State) : Host.Outcome State Fault Refusal :=
  .next (ignoreWrite s)

/-- `IN16 NAM <odd offset>` (R196). -/
def execIn16NamOdd (_reg : BitVec 7) (s : State) : Host.Outcome State Fault Refusal :=
  .next (unsupportedRead onesWord s)

/-- `OUT16 NAM <odd offset>` (R196). -/
def execOut16NamOdd (_reg : BitVec 7) (_d : BitVec 16) (s : State) : Host.Outcome State Fault Refusal :=
  .next (ignoreWrite s)

end Sys2Proof.Machine
end

