-- ==== Sys2Proof/Machine/Dispatch.lean ====
section
/-! DEFINITION. The meaning of an instruction: one arm per constructor, each a call of its meaning. -/

namespace Sys2Proof.Machine

open Sys2Proof

def exec (i : Instr) (s : State) : Host.Outcome State Fault Refusal :=
  match i with
  | .in32NabmPiBdbar => Sys2Proof.Machine.execIn32NabmPiBdbar s
  | .out32NabmPiBdbar d => Sys2Proof.Machine.execOut32NabmPiBdbar d s
  | .in8NabmPiCiv => Sys2Proof.Machine.execIn8NabmPiCiv s
  | .out8NabmPiCiv d => Sys2Proof.Machine.execOut8NabmPiCiv d s
  | .in32NabmPiCiv => Sys2Proof.Machine.execIn32NabmPiCiv s
  | .in8NabmPiLvi => Sys2Proof.Machine.execIn8NabmPiLvi s
  | .out8NabmPiLvi d => Sys2Proof.Machine.execOut8NabmPiLvi d s
  | .in16NabmPiSr => Sys2Proof.Machine.execIn16NabmPiSr s
  | .in8NabmPiSr => Sys2Proof.Machine.execIn8NabmPiSr s
  | .out8NabmPiSr d => Sys2Proof.Machine.execOut8NabmPiSr d s
  | .out16NabmPiSr d => Sys2Proof.Machine.execOut16NabmPiSr d s
  | .in16NabmPiPicb => Sys2Proof.Machine.execIn16NabmPiPicb s
  | .out16NabmPiPicb d => Sys2Proof.Machine.execOut16NabmPiPicb d s
  | .in32NabmPiPicb => Sys2Proof.Machine.execIn32NabmPiPicb s
  | .in8NabmPiPiv => Sys2Proof.Machine.execIn8NabmPiPiv s
  | .out8NabmPiPiv d => Sys2Proof.Machine.execOut8NabmPiPiv d s
  | .in8NabmPiCr => Sys2Proof.Machine.execIn8NabmPiCr s
  | .out8NabmPiCr d => Sys2Proof.Machine.execOut8NabmPiCr d s
  | .in32NabmPoBdbar => Sys2Proof.Machine.execIn32NabmPoBdbar s
  | .out32NabmPoBdbar d => Sys2Proof.Machine.execOut32NabmPoBdbar d s
  | .in8NabmPoCiv => Sys2Proof.Machine.execIn8NabmPoCiv s
  | .out8NabmPoCiv d => Sys2Proof.Machine.execOut8NabmPoCiv d s
  | .in32NabmPoCiv => Sys2Proof.Machine.execIn32NabmPoCiv s
  | .in8NabmPoLvi => Sys2Proof.Machine.execIn8NabmPoLvi s
  | .out8NabmPoLvi d => Sys2Proof.Machine.execOut8NabmPoLvi d s
  | .in16NabmPoSr => Sys2Proof.Machine.execIn16NabmPoSr s
  | .in8NabmPoSr => Sys2Proof.Machine.execIn8NabmPoSr s
  | .out8NabmPoSr d => Sys2Proof.Machine.execOut8NabmPoSr d s
  | .out16NabmPoSr d => Sys2Proof.Machine.execOut16NabmPoSr d s
  | .in16NabmPoPicb => Sys2Proof.Machine.execIn16NabmPoPicb s
  | .out16NabmPoPicb d => Sys2Proof.Machine.execOut16NabmPoPicb d s
  | .in32NabmPoPicb => Sys2Proof.Machine.execIn32NabmPoPicb s
  | .in8NabmPoPiv => Sys2Proof.Machine.execIn8NabmPoPiv s
  | .out8NabmPoPiv d => Sys2Proof.Machine.execOut8NabmPoPiv d s
  | .in8NabmPoCr => Sys2Proof.Machine.execIn8NabmPoCr s
  | .out8NabmPoCr d => Sys2Proof.Machine.execOut8NabmPoCr d s
  | .in32NabmMcBdbar => Sys2Proof.Machine.execIn32NabmMcBdbar s
  | .out32NabmMcBdbar d => Sys2Proof.Machine.execOut32NabmMcBdbar d s
  | .in8NabmMcCiv => Sys2Proof.Machine.execIn8NabmMcCiv s
  | .out8NabmMcCiv d => Sys2Proof.Machine.execOut8NabmMcCiv d s
  | .in32NabmMcCiv => Sys2Proof.Machine.execIn32NabmMcCiv s
  | .in8NabmMcLvi => Sys2Proof.Machine.execIn8NabmMcLvi s
  | .out8NabmMcLvi d => Sys2Proof.Machine.execOut8NabmMcLvi d s
  | .in16NabmMcSr => Sys2Proof.Machine.execIn16NabmMcSr s
  | .in8NabmMcSr => Sys2Proof.Machine.execIn8NabmMcSr s
  | .out8NabmMcSr d => Sys2Proof.Machine.execOut8NabmMcSr d s
  | .out16NabmMcSr d => Sys2Proof.Machine.execOut16NabmMcSr d s
  | .in16NabmMcPicb => Sys2Proof.Machine.execIn16NabmMcPicb s
  | .out16NabmMcPicb d => Sys2Proof.Machine.execOut16NabmMcPicb d s
  | .in32NabmMcPicb => Sys2Proof.Machine.execIn32NabmMcPicb s
  | .in8NabmMcPiv => Sys2Proof.Machine.execIn8NabmMcPiv s
  | .out8NabmMcPiv d => Sys2Proof.Machine.execOut8NabmMcPiv d s
  | .in8NabmMcCr => Sys2Proof.Machine.execIn8NabmMcCr s
  | .out8NabmMcCr d => Sys2Proof.Machine.execOut8NabmMcCr d s
  | .in32NabmGlobCnt => Sys2Proof.Machine.execIn32NabmGlobCnt s
  | .out32NabmGlobCnt d => Sys2Proof.Machine.execOut32NabmGlobCnt d s
  | .in32NabmGlobSta => Sys2Proof.Machine.execIn32NabmGlobSta s
  | .out32NabmGlobSta d => Sys2Proof.Machine.execOut32NabmGlobSta d s
  | .in8NabmCas => Sys2Proof.Machine.execIn8NabmCas s
  | .out8NabmCas d => Sys2Proof.Machine.execOut8NabmCas d s
  | .in8NabmUnsupported off => Sys2Proof.Machine.execIn8NabmUnsupported off s
  | .in16NabmUnsupported off => Sys2Proof.Machine.execIn16NabmUnsupported off s
  | .in32NabmUnsupported off => Sys2Proof.Machine.execIn32NabmUnsupported off s
  | .out8NabmUnsupported off d => Sys2Proof.Machine.execOut8NabmUnsupported off d s
  | .out16NabmUnsupported off d => Sys2Proof.Machine.execOut16NabmUnsupported off d s
  | .out32NabmUnsupported off d => Sys2Proof.Machine.execOut32NabmUnsupported off d s
  | .in16NamReg reg => Sys2Proof.Machine.execIn16NamReg reg s
  | .out16NamReg reg d => Sys2Proof.Machine.execOut16NamReg reg d s
  | .out16NamReset d => Sys2Proof.Machine.execOut16NamReset d s
  | .out16NamMasterVol d => Sys2Proof.Machine.execOut16NamMasterVol d s
  | .out16NamHeadphoneVol d => Sys2Proof.Machine.execOut16NamHeadphoneVol d s
  | .out16NamMicVol d => Sys2Proof.Machine.execOut16NamMicVol d s
  | .out16NamLineInVol d => Sys2Proof.Machine.execOut16NamLineInVol d s
  | .out16NamPcmOutVol d => Sys2Proof.Machine.execOut16NamPcmOutVol d s
  | .out16NamRecordSelect d => Sys2Proof.Machine.execOut16NamRecordSelect d s
  | .out16NamRecordGain d => Sys2Proof.Machine.execOut16NamRecordGain d s
  | .out16NamRecordGainMic d => Sys2Proof.Machine.execOut16NamRecordGainMic d s
  | .out16NamPowerdown d => Sys2Proof.Machine.execOut16NamPowerdown d s
  | .out16NamExtAudioId d => Sys2Proof.Machine.execOut16NamExtAudioId d s
  | .out16NamExtAudioCtrl d => Sys2Proof.Machine.execOut16NamExtAudioCtrl d s
  | .out16NamPcmFrontDacRate d => Sys2Proof.Machine.execOut16NamPcmFrontDacRate d s
  | .out16NamPcmLrAdcRate d => Sys2Proof.Machine.execOut16NamPcmLrAdcRate d s
  | .out16NamMicAdcRate d => Sys2Proof.Machine.execOut16NamMicAdcRate d s
  | .out16NamVendorId1 d => Sys2Proof.Machine.execOut16NamVendorId1 d s
  | .out16NamVendorId2 d => Sys2Proof.Machine.execOut16NamVendorId2 d s
  | .in8NamUnsupported off => Sys2Proof.Machine.execIn8NamUnsupported off s
  | .in32NamUnsupported off => Sys2Proof.Machine.execIn32NamUnsupported off s
  | .out8NamUnsupported off d => Sys2Proof.Machine.execOut8NamUnsupported off d s
  | .out32NamUnsupported off d => Sys2Proof.Machine.execOut32NamUnsupported off d s
  | .in16NamOdd reg => Sys2Proof.Machine.execIn16NamOdd reg s
  | .out16NamOdd reg d => Sys2Proof.Machine.execOut16NamOdd reg d s

end Sys2Proof.Machine
end

