-- ==== Sys2Proof/Machine/Transfer.lean ====
section
/-!
DEFINITION. The stream DMA transfer engine (spec/42_dma_transfer.md R150 to R157): one call, run inside a tick.
-/

namespace Sys2Proof.Machine

open Sys2Proof

/-- The result of `Transfer` (R155). -/
inductive TransferResult where
  | ok
  | eof
  deriving DecidableEq, Repr

/-- Room for the next move: free ring bytes for the output, held ring bytes for an input (R152). -/
def moveRoom (k : StreamId) (rt : StreamRuntime) : Nat :=
  if k.isOut then ringFree rt else ringUsed rt

/-- The byte count of the next move: at most what is asked for, what the descriptor has left and what the ring allows,
rounded down to whole samples (R152, D13). -/
def moveSize (k : StreamId) (remaining : Nat) (s : State) : Nat :=
  let n := min (min remaining (2 * (s.regs.get k).picb.toNat)) (moveRoom k (s.rt.get k))
  n - n % 2

/-- One move of `n` bytes (R152): the data, then PICB and the cached address. DEDUCED (notes/assumptions/22.md; unsafe if
the device rounds): the address is R152's sum, so bit 1 may be 1 after a move. -/
def moveChunk (k : StreamId) (n : Nat) (s : State) : State :=
  let a := (s.regs.get k).bdAddr
  let moved :=
    if k.isOut then s.nextDraw.modRt k (ringPush (s.memRead a n))
    else memWrite ((s.rt.get k).ring.take n) a (s.modRt k (ringPop n))
  moved.modRegs k fun r =>
    { r with picb := r.picb - BitVec.ofNat 16 (n / 2), bdAddr := r.bdAddr + BitVec.ofNat 32 n }

/-- `Complete(s)` (R153): the status of the completion, and the advance unless it was the last valid descriptor. -/
def complete (k : StreamId) (s : State) : State × TransferResult :=
  let r := s.regs.get k
  let underrun := r.civ == r.lvi
  let s1 := updateStatus k (srCompleted r.sr (bdIoc r.bdCtl) underrun) s
  if underrun then (s1, .eof) else (advance k s1, .ok)

/-- The move loop (R152). Every round moves at least one sample, so `fuel` of the byte count asked for never runs out
(`Laws/Transfer.lean`). -/
def moveLoop (k : StreamId) : Nat → Nat → State → State × TransferResult
  | 0, _, s => (s, .ok)
  | fuel + 1, remaining, s =>
    if moveSize k remaining s = 0 then (s, .ok)
    else
      let n := moveSize k remaining s
      let s1 := moveChunk k n s
      if (s1.regs.get k).picb = 0 then
        match complete k s1 with
        | (s2, .eof) => (s2, .eof)
        | (s2, .ok) => moveLoop k fuel (remaining - n) s2
      else moveLoop k fuel (remaining - n) s1

/-- `Transfer(s, maxBytes)`: the entry tests (R150), the cache (R151) and the loop (R152, R154). -/
def transfer (k : StreamId) (maxBytes : Nat) (s : State) : State × TransferResult :=
  if isHalted (s.regs.get k).sr then (s, .ok)
  else if isCompletionPending (s.regs.get k).sr then (s, .ok)
  else moveLoop k maxBytes maxBytes (if (s.regs.get k).bdValid then s else fetchBdle k s)

end Sys2Proof.Machine
end

