-- ==== Sys2Proof/Machine/Agents.lean ====
section
/-!
DEFINITION. The steps of the agents other than the guest CPU (spec/60_exceptions.md R255): the timer tick
(spec/44_scheduler.md R183), the worker, the host's control steps, save and load (spec/46_host_interface.md), and guest
stores (spec/20_memory.md R70).
-/

namespace Sys2Proof.Machine

open Sys2Proof

/-- `HostSide(s, ctx)` (R231), the same in either context. Only what the host really took or gave is released. -/
def hostSide (k : StreamId) (s : State) : State :=
  let a := s.host.get k
  let rt := s.rt.get k
  if k.isOut then
    let n := min (min (ringUsed rt) a.writable) a.accepts
    ((s.modRt k (ringPop n)).logHost (.sinkWrite k (rt.ring.take n))).logHost (.sinkUpdate k)
  else
    let bytes := a.supplies.take (min (ringFree rt) a.readable)
    ((s.modRt k (ringPush bytes)).logHost (.sinkRead k bytes)).logHost (.sinkUpdate k)

/-- The host side of a tick: inline, or in `ASYNC_MODE` a notification of the worker (R183, R233). -/
def tickHostSide (k : StreamId) (s : State) : State :=
  if s.cfg.asyncMode then s.modRt k fun rt => { rt with workerSignalled := true } else hostSide k s

/-- Is the tick of the stream enabled (R183)? -/
def tickEnabled (k : StreamId) (s : State) : Bool :=
  (s.rt.get k).enabled && (s.rt.get k).armed && decide ((s.rt.get k).deadline ≤ s.vnow)

/-- The data of a tick (R183): an input fills its ring first, the output drains its ring after the DMA. -/
def tickData (k : StreamId) (s : State) : State :=
  let n := (s.rt.get k).bytesPerTick
  if k.isOut then tickHostSide k (transfer k n s).1 else (transfer k n (tickHostSide k s)).1

/-- The timer of a tick (R183): re-armed after `NextDelay` while the sink is active, else disarmed. -/
def rearm (k : StreamId) (s : State) : State :=
  s.modRt k fun rt =>
    let rt := { rt with last := s.vnow }
    if (s.host.get k).active then { rt with deadline := clockAdd s.vnow (nextDelay s.cfg (s.regs.get k) rt) }
    else { rt with armed := false }

/-- A tick of the stream (R183); where it is not enabled it does nothing (notes/assumptions/16.md). -/
def tick (k : StreamId) (s : State) : State :=
  if tickEnabled k s then rearm k (tickData k s) else s

/-- A step of the stream's worker (R233); where it is not enabled it does nothing. -/
def workerStep (k : StreamId) (s : State) : State :=
  let rt := s.rt.get k
  if s.cfg.asyncMode && rt.workerExists && (rt.workerSignalled || rt.workerShutdown) then
    let s1 := s.modRt k fun rt => { rt with workerSignalled := false }
    if rt.workerShutdown then s1.modRt k fun rt => { rt with workerExists := false }
    else if rt.workerEnabled then hostSide k s1
    else s1
  else s

/-- Teardown tells the worker to exit (R233). -/
def shutdownWorker (k : StreamId) (s : State) : State :=
  if (s.rt.get k).workerExists then s.modRt k fun rt => { rt with workerShutdown := true } else s

/-- Teardown releases the ring once the worker is gone (R233, R239). -/
def releaseRing (k : StreamId) (s : State) : State :=
  if (s.rt.get k).workerExists then s else s.modRt k fun rt => { rt with ring := [] }

/-- The record of R236. -/
def saveRecord (s : State) : SaveRecord where
  globCnt := s.globCnt
  globSta := s.globSta
  cas := s.cas
  streams := s.regs
  mix := s.mix
  enabled := ⟨s.rt.pi.enabled, s.rt.po.enabled, s.rt.mc.enabled⟩

/-- The host settings a load re-applies from the restored bank (R237): volumes, gains and the record source. -/
def reapplyHost (s : State) : State :=
  let s1 := sendGain .micRec 0x1E (sendGain .lineInRec 0x1C (sendVolumes s))
  s1.logHost (.setRecordingSource (recordLeft (s1.mixAt 0x1A)) (recordRight (s1.mixAt 0x1A)))

/-- R237, per stream: re-apply the host settings, and enable a stream the record marks enabled. -/
def loadStream (r : SaveRecord) (k : StreamId) (s : State) : State :=
  if r.enabled.get k then enable k (reapplyHost s) else reapplyHost s

/-- Load a record (R237). The line follows GLOB_STA (R171). -/
def loadRecord (r : SaveRecord) (s : State) : State :=
  let s1 := disable .mc (disable .po (disable .pi s))
  loadStream r .mc (loadStream r .po (loadStream r .pi
    { s1 with globCnt := r.globCnt, globSta := r.globSta, cas := r.cas, regs := r.streams, mix := r.mix }))

/-- The store at place `n` of the stores in flight reaches memory (R70). -/
def completeStore (n : Nat) (s : State) : State :=
  match s.racing[n]? with
  | some (a, b) => { s with racing := s.racing.eraseIdx n }.writeByte a b
  | none => s

/-- One step of an agent other than the guest CPU's ports (R255). -/
def agentStep (e : AgentEvent) (s : State) : State :=
  match e with
  | .tick k => tick k s
  | .worker k => workerStep k s
  | .clock delta => { s with vnow := clockAdd s.vnow delta.toNat }
  | .save => s.logHost (.saved (saveRecord s))
  | .load r => loadRecord r s
  | .deviceReset => deviceReset s
  | .shutdown k => shutdownWorker k s
  | .release k => releaseRing k s
  | .guestStore a b => { s with racing := s.racing ++ [(a.toNat, b)] }
  | .storeDone n => completeStore n s

end Sys2Proof.Machine
end

