-- ==== Sys2Proof/Machine/Record.lean ====
section
/-!
DEFINITION. The layout of the persisted record (spec/46_host_interface.md R236): 331 bytes, little-endian (R60).
-/

namespace Sys2Proof.Machine

open Sys2Proof

/-- A flag as the byte the record holds. -/
def flagByte (b : Bool) : Byte := if b then 1 else 0

/-- The 21 bytes of one stream (R236). -/
def streamBytes (r : StreamRegs) : List Byte :=
  Dword.bytes r.bdbar ++ [r.civ.setWidth 8, r.lvi.setWidth 8] ++ Word.bytes r.sr ++ Word.bytes r.picb ++
    [r.piv.setWidth 8, r.cr, flagByte r.bdValid] ++ Dword.bytes r.bdAddr ++ Dword.bytes r.bdCtl

/-- The 256 bytes of the codec bank (R195, R236). -/
def bankBytes (m : Bank) : List Byte := m.toList.flatMap Word.bytes

/-- The record as bytes (R236). -/
def recordBytes (r : SaveRecord) : List Byte :=
  Dword.bytes r.globCnt ++ Dword.bytes r.globSta ++ [r.cas.setWidth 8] ++ streamBytes r.streams.pi ++
    streamBytes r.streams.po ++ streamBytes r.streams.mc ++ bankBytes r.mix ++
    [flagByte r.enabled.pi, flagByte r.enabled.po, flagByte r.enabled.mc]

/-- Byte `o` of a record. -/
def byteAt (l : List Byte) (o : Nat) : Byte := l.getD o 0

/-- The little-endian word at `o` (R60). -/
def wordAt (l : List Byte) (o : Nat) : Word := (byteAt l (o + 1) ++ byteAt l o : BitVec 16)

/-- The little-endian dword at `o` (R60). -/
def dwordAt (l : List Byte) (o : Nat) : Dword := dwordOfBytes (l.drop o)

/-- A stream's registers from the 21 bytes at `o`; indices are taken mod 32 (R237). The descriptor is valid where its flag
byte is not 0, which is what R151 tests (notes/assumptions/18.md). -/
def streamOfBytes (l : List Byte) (o : Nat) : StreamRegs where
  bdbar := dwordAt l o
  civ := (byteAt l (o + 4)).setWidth 5
  lvi := (byteAt l (o + 5)).setWidth 5
  sr := wordAt l (o + 6)
  picb := wordAt l (o + 8)
  piv := (byteAt l (o + 10)).setWidth 5
  cr := byteAt l (o + 11)
  bdValid := byteAt l (o + 12) != 0
  bdAddr := dwordAt l (o + 13)
  bdCtl := dwordAt l (o + 17)

/-- The record that 331 bytes hold (R236); a list of another length is no record. A stream is enabled where its byte is 1
(R237). DESIGN CHOICE (notes/assumptions/18.md; unsafe for foreign records): of a semaphore byte that is neither 0 nor 1,
CAS takes bit 0. -/
def recordOfBytes (l : List Byte) : Option SaveRecord :=
  if l.length = 331 then
    some {
      globCnt := dwordAt l 0
      globSta := dwordAt l 4
      cas := (byteAt l 8).setWidth 1
      streams := ⟨streamOfBytes l 9, streamOfBytes l 30, streamOfBytes l 51⟩
      mix := Vector.ofFn fun i => wordAt l (72 + 2 * i.val)
      enabled := ⟨byteAt l 328 == 1, byteAt l 329 == 1, byteAt l 330 == 1⟩ }
  else none

end Sys2Proof.Machine
end

