-- ==== Sys2Proof/Machine/Schedule.lean ====
section
/-!
DEFINITION. Which event is next (spec/60_exceptions.md R255: any enabled step may be taken next): the head of the
state's queue, and where the queue is empty a free choice of the environment.
-/

namespace Sys2Proof.Machine

open Sys2Proof

/-- The event that is next. -/
def nextEvent (s : State) : Event :=
  match s.pending with
  | e :: _ => e
  | [] => Config.environment s.draws

/-- The state that has taken its next event: off the queue, with the host's answers for the step (R230). -/
def takeEvent (s : State) : State :=
  { s with pending := s.pending.tail, host := Config.hostAnswers s.draws, draws := s.draws + 1 }

/-- The state with an event put in front of the queue. -/
def scheduleNext (e : Event) (s : State) : State := { s with pending := e :: s.pending }

/-- The width field of a transaction word (R80). -/
def AccessWidth.code : AccessWidth → BitVec 2
  | .byte => 0
  | .word => 1
  | .dword => 2

/-- The word that names a port access (R61, R80): offset from the base of the region the address lies in; none where it
lies in neither region. -/
def busWord (p : Platform) (write : Bool) (w : AccessWidth) (port : Nat) : Option Word :=
  if p.nabmBase ≤ port ∧ port < p.nabmBase + 0x40 then
    some (encodeWord write false w.code (BitVec.ofNat 8 (port - p.nabmBase)))
  else if p.namBase ≤ port ∧ port < p.namBase + 0x100 then
    some (encodeWord write true w.code (BitVec.ofNat 8 (port - p.namBase)))
  else none

/-- The transaction word of a numbered instruction: its bits 15:0. -/
def tableWordT (nbits w : Nat) : Word := BitVec.ofNat 16 (w % 2 ^ nbits)

/-- The data operand of a numbered instruction: the bits above 15. -/
def tableWordD (nbits w : Nat) : Dword := BitVec.ofNat 32 (w % 2 ^ nbits / 2 ^ 16)

end Sys2Proof.Machine
end

