-- ==== Sys2Proof/Machine/Step.lean ====
section
/-!
DEFINITION. One step: the next event of the environment, run by the instruction's meaning or the agent's step
(spec/60_exceptions.md R255).
-/

namespace Sys2Proof.Machine

open Sys2Proof

/-- Run the transaction named by a word. A word that names no transaction is refused (R88 (a)). -/
def runPort (t : Word) (d : Dword) (s : State) : Host.Outcome State Fault Refusal :=
  match decode t d with
  | .ok i => exec i s
  | .error why => .refused (.noTransaction why)

/-- Run one event. A port access outside both regions is not addressed to the device (notes/assumptions/31.md). -/
def runEvent (e : Event) (s : State) : Host.Outcome State Fault Refusal :=
  match e with
  | .port t d => runPort t d s
  | .access write w port d =>
    match busWord s.cfg write w port with
    | some t => runPort t d s
    | none => .next s
  | .agent a => .next (agentStep a s)

/-- One step of the machine: the event that is next, in the state that has taken it. -/
def step (s : State) : Host.Outcome State Fault Refusal := runEvent (nextEvent s) (takeEvent s)

/-- `s` with the transaction whose first `nbits` bits are `w`, and whose other bits are 0, as the guest's next. -/
def State.withFetchWord (s : State) (nbits w : Nat) : State :=
  scheduleNext (.port (tableWordT nbits w) (tableWordD nbits w)) s

end Sys2Proof.Machine
end

