-- ==== Sys2Proof/Safety.lean ====
section
/-!
DEFINITION. What counts as a good state, in the terms the statements use: `MachineOk`, which every step keeps, and
`GuestOk`, the shape of the guest-visible registers, which every step keeps but the load of a foreign record (I21).
-/

namespace Sys2Proof.Machine

open Sys2Proof

/-- Guest memory is in canonical form and lists backed addresses only (R64), and so do the stores in flight
lie inside the address space (R11). -/
abbrev MemoryOk (s : State) : Prop :=
  Memory.wf s.mem ∧ (∀ p ∈ s.mem, s.isRam p.1 = true) ∧ ∀ p ∈ s.racing, p.1 < 2 ^ 32

/-- One stream's runtime state: the ring is bounded (R38); an armed timer or an enabled worker belongs to an open
stream and a closed stream's ring is empty (R187); without `ASYNC_MODE` there is no worker (R41). -/
abbrev RuntimeOk (p : Platform) (rt : StreamRuntime) : Prop :=
  rt.ring.length ≤ rt.ringCap ∧
  (rt.armed = true → rt.enabled = true) ∧
  (rt.workerEnabled = true → rt.enabled = true) ∧
  (rt.enabled = false → rt.ring = []) ∧
  (p.asyncMode = false → rt.workerExists = false ∧ rt.workerEnabled = false ∧
    rt.workerSignalled = false ∧ rt.workerShutdown = false)

/-- The good states that every step keeps. -/
abbrev MachineOk (s : State) : Prop :=
  MemoryOk s ∧ RuntimeOk s.cfg s.rt.pi ∧ RuntimeOk s.cfg s.rt.po ∧ RuntimeOk s.cfg s.rt.mc

/-- One stream's registers: reserved and forced bits read 0 (R23, R27, R29), FIFOE is never set (R157), the cached
address is even (R66), PICB is within the descriptor (R28), CELV comes with DCH (R153 (e)), a stream that is not halted
runs from a valid descriptor, and PIV follows CIV once a descriptor was fetched (R143). -/
abbrev RegsOk (r : StreamRegs) : Prop :=
  r.bdbar &&& 3 = 0 ∧
  r.sr &&& 0xFFF0 = 0 ∧
  r.cr &&& 0xE2 = 0 ∧
  r.bdAddr &&& 1 = 0 ∧
  r.picb ≤ bdLength r.bdCtl ∧
  (r.sr.getLsbD 1 = true → isHalted r.sr = true) ∧
  (isHalted r.sr = false → crRuns r.cr = true ∧ r.bdValid = true) ∧
  (r.piv = r.civ + 1 ∨ r.civ = 0 ∧ r.piv = 0 ∧ r.bdValid = false)

/-- One stream as the guest can bring it about: good registers, an open stream has RPBM set, and a contribution to
GLOB_STA has an interrupt bit behind it (R170). -/
abbrev StreamOk (g : Dword) (k : StreamId) (enabled : Bool) (r : StreamRegs) : Prop :=
  RegsOk r ∧ (enabled = true → crRuns r.cr = true) ∧ (g &&& gsStream k ≠ 0 → r.sr &&& srINT ≠ 0)

/-- The global registers: reserved bits 0, no stored reset bit (R31, R118), only bits 17:16 and 7:5 of GLOB_STA (R33),
and the semaphore free (R73). -/
abbrev GlobalsOk (globCnt globSta : Dword) (cas : BitVec 1) : Prop :=
  globCnt &&& ~~~0x39 = 0 ∧ globSta &&& ~~~0x300E0 = 0 ∧ cas = 0

/-- The states a guest can bring about from reset, as far as the registers show. -/
abbrev GuestOk (s : State) : Prop :=
  GlobalsOk s.globCnt s.globSta s.cas ∧
  StreamOk s.globSta .pi s.rt.pi.enabled s.regs.pi ∧
  StreamOk s.globSta .po s.rt.po.enabled s.regs.po ∧
  StreamOk s.globSta .mc s.rt.mc.enabled s.regs.mc

/-- A record that a device in a good state saved (R240: the host loads only such records). -/
abbrev RecordOk (r : SaveRecord) : Prop :=
  GlobalsOk r.globCnt r.globSta r.cas ∧
  StreamOk r.globSta .pi r.enabled.pi r.streams.pi ∧
  StreamOk r.globSta .po r.enabled.po r.streams.po ∧
  StreamOk r.globSta .mc r.enabled.mc r.streams.mc

/-- The event loads no foreign record. -/
def loadsGoodRecord : Event → Prop
  | .agent (.load r) => RecordOk r
  | _ => True

/-- The events that can change guest memory: a tick of an input stream (R152) and the completion of a guest store. -/
def mayWriteMemory : Event → Bool
  | .agent (.tick k) => !k.isOut
  | .agent (.storeDone _) => true
  | _ => false

/-! ## The stream register accesses by stream, as the statements name them (R81) -/

/-- `IN32 NABM <s>_BDBAR`. -/
def Port.bdbarRead : StreamId → Instr
  | .pi => .in32NabmPiBdbar
  | .po => .in32NabmPoBdbar
  | .mc => .in32NabmMcBdbar

/-- `OUT32 NABM <s>_BDBAR`. -/
def Port.bdbarWrite : StreamId → BitVec 32 → Instr
  | .pi, d => .out32NabmPiBdbar d
  | .po, d => .out32NabmPoBdbar d
  | .mc, d => .out32NabmMcBdbar d

/-- `IN8 NABM <s>_CIV`. -/
def Port.civRead : StreamId → Instr
  | .pi => .in8NabmPiCiv
  | .po => .in8NabmPoCiv
  | .mc => .in8NabmMcCiv

/-- `OUT8 NABM <s>_CIV`. -/
def Port.civWrite : StreamId → BitVec 8 → Instr
  | .pi, d => .out8NabmPiCiv d
  | .po, d => .out8NabmPoCiv d
  | .mc, d => .out8NabmMcCiv d

/-- `IN32 NABM <s>_CIV`. -/
def Port.indexRead : StreamId → Instr
  | .pi => .in32NabmPiCiv
  | .po => .in32NabmPoCiv
  | .mc => .in32NabmMcCiv

/-- `IN8 NABM <s>_LVI`. -/
def Port.lviRead : StreamId → Instr
  | .pi => .in8NabmPiLvi
  | .po => .in8NabmPoLvi
  | .mc => .in8NabmMcLvi

/-- `OUT8 NABM <s>_LVI`. -/
def Port.lviWrite : StreamId → BitVec 8 → Instr
  | .pi, d => .out8NabmPiLvi d
  | .po, d => .out8NabmPoLvi d
  | .mc, d => .out8NabmMcLvi d

/-- `IN16 NABM <s>_SR`. -/
def Port.srRead : StreamId → Instr
  | .pi => .in16NabmPiSr
  | .po => .in16NabmPoSr
  | .mc => .in16NabmMcSr

/-- `IN8 NABM <s>_SR`. -/
def Port.srByteRead : StreamId → Instr
  | .pi => .in8NabmPiSr
  | .po => .in8NabmPoSr
  | .mc => .in8NabmMcSr

/-- `OUT8 NABM <s>_SR`. -/
def Port.srByteWrite : StreamId → BitVec 8 → Instr
  | .pi, d => .out8NabmPiSr d
  | .po, d => .out8NabmPoSr d
  | .mc, d => .out8NabmMcSr d

/-- `OUT16 NABM <s>_SR`. -/
def Port.srWrite : StreamId → BitVec 16 → Instr
  | .pi, d => .out16NabmPiSr d
  | .po, d => .out16NabmPoSr d
  | .mc, d => .out16NabmMcSr d

/-- `IN16 NABM <s>_PICB`. -/
def Port.picbRead : StreamId → Instr
  | .pi => .in16NabmPiPicb
  | .po => .in16NabmPoPicb
  | .mc => .in16NabmMcPicb

/-- `OUT16 NABM <s>_PICB`. -/
def Port.picbWrite : StreamId → BitVec 16 → Instr
  | .pi, d => .out16NabmPiPicb d
  | .po, d => .out16NabmPoPicb d
  | .mc, d => .out16NabmMcPicb d

/-- `IN32 NABM <s>_PICB`. -/
def Port.positionRead : StreamId → Instr
  | .pi => .in32NabmPiPicb
  | .po => .in32NabmPoPicb
  | .mc => .in32NabmMcPicb

/-- `IN8 NABM <s>_PIV`. -/
def Port.pivRead : StreamId → Instr
  | .pi => .in8NabmPiPiv
  | .po => .in8NabmPoPiv
  | .mc => .in8NabmMcPiv

/-- `OUT8 NABM <s>_PIV`. -/
def Port.pivWrite : StreamId → BitVec 8 → Instr
  | .pi, d => .out8NabmPiPiv d
  | .po, d => .out8NabmPoPiv d
  | .mc, d => .out8NabmMcPiv d

/-- `IN8 NABM <s>_CR`. -/
def Port.crRead : StreamId → Instr
  | .pi => .in8NabmPiCr
  | .po => .in8NabmPoCr
  | .mc => .in8NabmMcCr

/-- `OUT8 NABM <s>_CR`. -/
def Port.crWrite : StreamId → BitVec 8 → Instr
  | .pi, d => .out8NabmPiCr d
  | .po, d => .out8NabmPoCr d
  | .mc, d => .out8NabmMcCr d

/-- A stream's rate register (R209). -/
def Port.rateWrite : StreamId → BitVec 16 → Instr
  | .pi, d => .out16NamPcmLrAdcRate d
  | .po, d => .out16NamPcmFrontDacRate d
  | .mc, d => .out16NamMicAdcRate d

/-! ## Frames -/

/-- What no port transaction touches: guest memory and the stores in flight, the clock, the platform, the schedule and
the host's answers. -/
abbrev KeepsOutside (s t : State) : Prop :=
  t.mem = s.mem ∧ t.racing = s.racing ∧ t.vnow = s.vnow ∧ t.cfg = s.cfg ∧ t.pending = s.pending ∧ t.host = s.host

/-- The global registers and the codec unchanged. -/
abbrev KeepsGlobals (s t : State) : Prop :=
  t.globCnt = s.globCnt ∧ t.globSta = s.globSta ∧ t.cas = s.cas ∧ t.mix = s.mix

/-- The registers and the runtime state of the streams other than `k` unchanged. -/
abbrev KeepsOtherStreams (k : StreamId) (s t : State) : Prop :=
  ∀ j, j ≠ k → t.regs.get j = s.regs.get j ∧ t.rt.get j = s.rt.get j

end Sys2Proof.Machine
end

