-- ==== Sys2Proof/Certificates/Slice0/Obligations.lean ====
section
/-!
DEFINITION. The statements for the provers, from the numbered rules of spec/. An equation `exec i s = .next t` says at
once that the transaction completes, what it does and that it does nothing else.
-/

open Sys2Proof Sys2Proof.Machine

/-! ## Bus-master registers -/

/-- R102: a BDBAR read returns the base and changes nothing else. -/
def Obligations.BdbarReadReturnsBase : Prop :=
  ∀ (k : StreamId) (s : State),
    exec (Port.bdbarRead k) s = .next { s with result := .dword (s.regs.get k).bdbar }

/-- R103: a BDBAR write stores `D & 0xFFFFFFFC` and changes no other state. -/
def Obligations.BdbarWriteClearsLowBits : Prop :=
  ∀ (k : StreamId) (d : Dword) (s : State),
    exec (Port.bdbarWrite k d) s =
      .next { s with regs := s.regs.set k { s.regs.get k with bdbar := d &&& 0xFFFFFFFC } }

/-- R104, R107, R122: the index reads return CIV, LVI and PIV as bytes; CIV lies in 0..31. -/
def Obligations.IndexBytesAreRead : Prop :=
  ∀ (k : StreamId) (s : State),
    exec (Port.civRead k) s = .next { s with result := .byte ((s.regs.get k).civ.setWidth 8) } ∧
    exec (Port.lviRead k) s = .next { s with result := .byte ((s.regs.get k).lvi.setWidth 8) } ∧
    exec (Port.pivRead k) s = .next { s with result := .byte ((s.regs.get k).piv.setWidth 8) } ∧
    ((s.regs.get k).civ.setWidth 8).toNat ≤ 31

/-- R83, R106, R121: the packed reads return the shifted and joined registers, which is the little-endian dword of the
byte layout of R81. -/
def Obligations.PackedReadsMatchByteLayout : Prop :=
  ∀ (k : StreamId) (s : State),
    let r := s.regs.get k
    let index : Dword := (r.sr.setWidth 32 <<< 16) ||| (r.lvi.setWidth 32 <<< 8) ||| r.civ.setWidth 32
    let position : Dword := (r.cr.setWidth 32 <<< 24) ||| (r.piv.setWidth 32 <<< 16) ||| r.picb.setWidth 32
    exec (Port.indexRead k) s = .next { s with result := .dword index } ∧
    exec (Port.positionRead k) s = .next { s with result := .dword position } ∧
    index = r.sr ++ r.lvi.setWidth 8 ++ r.civ.setWidth 8 ∧
    position = r.cr ++ r.piv.setWidth 8 ++ r.picb

/-- R110: an SR byte read returns SR bits 7:0; an SR byte write is the word write of the zero-extended byte. -/
def Obligations.StatusByteAccess : Prop :=
  ∀ (k : StreamId) (s : State),
    exec (Port.srByteRead k) s = .next { s with result := .byte ((s.regs.get k).sr.setWidth 8) } ∧
    ∀ d : Byte, exec (Port.srByteWrite k d) s = exec (Port.srWrite k (d.setWidth 16)) s

/-- R116 with R170: an SR write clears the written ones among bits 4:2 and no other bit, and the stream's contribution
follows as `UpdateStatus` says. -/
def Obligations.StatusWriteClearsRequestedBits : Prop :=
  ∀ (k : StreamId) (d : Word) (s : State),
    let r := s.regs.get k
    let v := r.sr &&& ~~~(d &&& 0x001C)
    exec (Port.srWrite k d) s = .next (updateStatus k v s) ∧
    (updateStatus k v s).regs = s.regs.set k { r with sr := v } ∧
    (v.getLsbD 0 = r.sr.getLsbD 0 ∧ v.getLsbD 1 = r.sr.getLsbD 1) ∧
    (v &&& 0xFFE0 = r.sr &&& 0xFFE0) ∧
    (v &&& 0x001C ≠ r.sr &&& 0x001C → v &&& 0x001C = 0 →
      (updateStatus k v s).globSta = s.globSta &&& ~~~(gsStream k)) ∧
    (d &&& 0x001C = 0 → updateStatus k v s = s)

/-- R109, R115, R120: an SR, a CR and a PICB read return the register; SR bits 15:5, CR bit 1 and CR bits 7:5 read 0 in
every state that the device and the guest bring about. -/
def Obligations.StatusControlPositionAreRead : Prop :=
  ∀ (k : StreamId) (s : State),
    exec (Port.srRead k) s = .next { s with result := .word (s.regs.get k).sr } ∧
    (RegsOk (s.regs.get k) → (s.regs.get k).sr &&& 0xFFE0 = 0) ∧
    exec (Port.picbRead k) s = .next { s with result := .word (s.regs.get k).picb } ∧
    exec (Port.crRead k) s = .next { s with result := .byte (s.regs.get k).cr } ∧
    (RegsOk (s.regs.get k) → (s.regs.get k).cr &&& 0xE2 = 0)

/-- R105, R125: writes to CIV, PIV, PICB and CAS change nothing. -/
def Obligations.ReadOnlyRegistersIgnoreWrites : Prop :=
  ∀ (k : StreamId) (d : Byte) (w : Word) (s : State),
    exec (Port.civWrite k d) s = .next s ∧ exec (Port.pivWrite k d) s = .next s ∧
    exec (Port.picbWrite k w) s = .next s ∧ exec (.out8NabmCas d) s = .next s

/-- R118, R123: a GLOB_CNT read returns it; a write stores `D & 0x3F`, unless one of bits 1 and 2 is set: then nothing
is stored and nothing is reset. R119: a CAS read returns the flag and sets it free. -/
def Obligations.GlobalControlAndSemaphoreAccess : Prop :=
  ∀ (d : Dword) (s : State),
    exec .in32NabmGlobCnt s = .next { s with result := .dword s.globCnt } ∧
    (d &&& 0x6 = 0 → exec (.out32NabmGlobCnt d) s = .next { s with globCnt := d &&& 0x3F }) ∧
    (d &&& 0x6 ≠ 0 → exec (.out32NabmGlobCnt d) s = .next s) ∧
    exec .in8NabmCas s = .next { s with result := .byte (s.cas.setWidth 8), cas := 0 }

/-- R117, R124: a GLOB_STA read reports S0CR; a write clears the written ones of 0x8C01, sets only bits 17:16, and
leaves the interrupt line as it was. -/
def Obligations.GlobalStatusAccess : Prop :=
  ∀ (d : Dword) (s : State),
    exec .in32NabmGlobSta s = .next { s with result := .dword (s.globSta ||| 0x100) } ∧
    ∃ t, exec (.out32NabmGlobSta d) s = .next t ∧
      t = { s with globSta := (s.globSta &&& ~~~(d &&& 0x8C01)) ||| (d &&& 0x30000) } ∧ t.inta = s.inta

/-- R101, R196: an unsupported read of either region returns all ones of its width and changes nothing else, the
semaphore included, and an unsupported write changes nothing. -/
def Obligations.UnsupportedAccessHasNoEffect : Prop :=
  ∀ (off : BitVec 6) (off8 : BitVec 8) (reg : BitVec 7) (b : BitVec 8) (w : BitVec 16) (d : BitVec 32) (s : State),
    exec (.in8NabmUnsupported off) s = .next { s with result := .byte 0xFF } ∧
    exec (.in16NabmUnsupported off) s = .next { s with result := .word 0xFFFF } ∧
    exec (.in32NabmUnsupported off) s = .next { s with result := .dword 0xFFFFFFFF } ∧
    exec (.out8NabmUnsupported off b) s = .next s ∧
    exec (.out16NabmUnsupported off w) s = .next s ∧
    exec (.out32NabmUnsupported off d) s = .next s ∧
    exec (.in8NamUnsupported off8) s = .next { s with result := .byte 0xFF } ∧
    exec (.in32NamUnsupported off8) s = .next { s with result := .dword 0xFFFFFFFF } ∧
    exec (.in16NamOdd reg) s = .next { s with result := .word 0xFFFF } ∧
    exec (.out8NamUnsupported off8 b) s = .next s ∧
    exec (.out32NamUnsupported off8 d) s = .next s ∧
    exec (.out16NamOdd reg w) s = .next s

/-! ## Control writes -/

/-- R111, R272: a CR write with RR set resets the stream and stores nothing of the data: the registers; the runtime state
that `Disable` leaves (R187: timer, ring, ENABLED, and the worker's enable in `ASYNC_MODE`); the withdrawn contribution. The
globals but GLOB_STA, the codec, the other streams and what lies outside the device stay, and the host gets a close. -/
def Obligations.ControlResetResetsStream : Prop :=
  ∀ (k : StreamId) (d : Byte) (s : State), d.getLsbD 1 = true →
    let r := s.regs.get k
    ∃ t, exec (Port.crWrite k d) s = .next t ∧
      t.regs = s.regs.set k ⟨0, 0, 0, 0x0001, 0, 0, r.cr &&& 0x1C, false, 0, 0⟩ ∧
      t.rt = (disable k s).rt ∧
      (t.rt.get k).enabled = false ∧ (t.rt.get k).armed = false ∧ (t.rt.get k).ring = [] ∧
      (s.cfg.asyncMode = true → (t.rt.get k).workerEnabled = false) ∧
      (r.sr &&& 0x001C ≠ 0 → t.globSta = s.globSta &&& ~~~(gsStream k)) ∧
      (r.sr &&& 0x001C = 0 → t.globSta = s.globSta) ∧
      t.globCnt = s.globCnt ∧ t.cas = s.cas ∧ t.mix = s.mix ∧
      KeepsOtherStreams k s t ∧ KeepsOutside s t ∧ t.result = s.result ∧ t.draws = s.draws ∧
      t.hostLog = .closeStream k :: s.hostLog

/-- R112: a CR write with RR and RPBM clear stores CR, disables the stream and sets DCH; indices, PICB and the cached
descriptor stay. The runtime state is what `Disable` leaves (R187: timer, ring, ENABLED, and the worker's enable in
`ASYNC_MODE`); the globals, the codec, the other streams and what lies outside the device stay, and the host gets a close. -/
def Obligations.ControlStopHaltsStream : Prop :=
  ∀ (k : StreamId) (d : Byte) (s : State), d.getLsbD 1 = false → d.getLsbD 0 = false →
    let r := s.regs.get k
    ∃ t, exec (Port.crWrite k d) s = .next t ∧
      t.regs = s.regs.set k { r with cr := d &&& 0x1F, sr := r.sr ||| 0x0001 } ∧
      t.rt = (disable k s).rt ∧
      (t.rt.get k).enabled = false ∧ (t.rt.get k).armed = false ∧ (t.rt.get k).ring = [] ∧
      (s.cfg.asyncMode = true → (t.rt.get k).workerEnabled = false) ∧
      KeepsGlobals s t ∧ KeepsOtherStreams k s t ∧ KeepsOutside s t ∧ t.result = s.result ∧ t.draws = s.draws ∧
      t.hostLog = .closeStream k :: s.hostLog

/-- R113: a CR write with RPBM set to a halted stream stores CR, clears DCH and CELV, advances to PIV, fetches the entry
there from guest memory, and enables the stream. -/
def Obligations.ControlStartAdvancesAndEnables : Prop :=
  ∀ (k : StreamId) (d : Byte) (s : State), d.getLsbD 1 = false → d.getLsbD 0 = true →
    (s.regs.get k).sr.getLsbD 0 = true →
    let r := s.regs.get k
    let bytes := s.memRead (r.bdbar + 8 * r.piv.setWidth 32) 8
    let advanced : State := { s with
      draws := s.draws + 1
      regs := s.regs.set k
        { r with
          cr := d &&& 0x1F
          sr := r.sr &&& 0xFFFC
          civ := r.piv
          piv := r.piv + 1
          bdAddr := dwordOfBytes bytes &&& 0xFFFFFFFC
          bdCtl := dwordOfBytes (bytes.drop 4)
          picb := (dwordOfBytes (bytes.drop 4)).setWidth 16
          bdValid := true } }
    ∃ t, exec (Port.crWrite k d) s = .next t ∧ t = enable k advanced ∧ t.regs = advanced.regs ∧
      ((s.rt.get k).enabled = true → t = advanced) ∧
      ((s.rt.get k).enabled = false → (s.host.get k).openOk = true →
        (t.rt.get k).enabled = true ∧ (t.rt.get k).armed = true ∧ (t.rt.get k).ring = [] ∧
        (t.rt.get k).ringCap = s.cfg.ringCap.get k ∧ (t.rt.get k).config = streamConfigOf s.mix k) ∧
      ((s.rt.get k).enabled = false → (s.host.get k).openOk = false → (t.rt.get k).enabled = false) ∧
      KeepsGlobals s t ∧ KeepsOtherStreams k s t ∧ KeepsOutside s t ∧ t.result = s.result ∧ t.draws = s.draws + 1

/-- A CR write with RPBM set to a stream that is not halted only stores CR: the inference that spec/40_nabm_access.md
marks as derived in its rule on the running stream. -/
def Obligations.ControlWriteWhileRunningOnlyStores : Prop :=
  ∀ (k : StreamId) (d : Byte) (s : State), d.getLsbD 1 = false → d.getLsbD 0 = true →
    (s.regs.get k).sr.getLsbD 0 = false →
    exec (Port.crWrite k d) s = .next { s with regs := s.regs.set k { s.regs.get k with cr := d &&& 0x1F } }

/-- R108: an LVI write stores `D mod 32`; on a running and halted stream it first clears DCH and CELV and advances,
whatever value is written; the line does not change. -/
def Obligations.LastValidIndexWrite : Prop :=
  ∀ (k : StreamId) (d : Byte) (s : State),
    let r := s.regs.get k
    let bytes := s.memRead (r.bdbar + 8 * r.piv.setWidth 32) 8
    (¬(r.cr.getLsbD 0 = true ∧ r.sr.getLsbD 0 = true) →
      exec (Port.lviWrite k d) s = .next { s with regs := s.regs.set k { r with lvi := d.setWidth 5 } }) ∧
    (r.cr.getLsbD 0 = true ∧ r.sr.getLsbD 0 = true →
      exec (Port.lviWrite k d) s = .next
        { s with
          draws := s.draws + 1
          regs := s.regs.set k
            { r with
              sr := r.sr &&& 0xFFFC
              civ := r.piv
              piv := r.piv + 1
              bdAddr := dwordOfBytes bytes &&& 0xFFFFFFFC
              bdCtl := dwordOfBytes (bytes.drop 4)
              picb := (dwordOfBytes (bytes.drop 4)).setWidth 16
              bdValid := true
              lvi := d.setWidth 5 } }) ∧
    (d.setWidth 5 : BitVec 5).toNat = d.toNat % 32

/-! ## Codec registers -/

/-- R197: a mixer word read returns the stored register and sets the semaphore free. R203: a plain store changes one
register and no other, and reads back verbatim; no host effect. -/
def Obligations.MixerReadAndPlainStore : Prop :=
  ∀ (reg : BitVec 7) (d : Word) (s : State),
    exec (.in16NamReg reg) s = .next { s with cas := 0, result := .word (bankGet s.mix reg) } ∧
    ∃ t, exec (.out16NamReg reg d) s = .next t ∧
    t = { s with cas := 0, mix := t.mix } ∧
    exec (.in16NamReg reg) t = .next { t with result := .word d } ∧
    ∀ q : BitVec 7, q ≠ reg → bankGet t.mix q = bankGet s.mix q

/-- R201, R210: Master and Headphone volume store the data with bits 4:0 forced to 1 where bit 5 is set and bits 12:8
where bit 13 is set; Master also sets the host volume. -/
def Obligations.QuirkVolumesForceLowBits : Prop :=
  ∀ (d : Word) (s : State),
    let v : Word :=
      d ||| (if d.getLsbD 5 then 0x001F else 0) ||| (if d.getLsbD 13 then 0x1F00 else 0)
    exec (.out16NamMasterVol d) s = .next
      { s with
        cas := 0
        mix := bankSet s.mix 1 v
        hostLog := .setVolume .master
          ⟨v.getLsbD 15, s.cfg.volMax - 4 * (v.toNat / 256 % 32), s.cfg.volMax - 4 * (v.toNat % 32)⟩ :: s.hostLog } ∧
    exec (.out16NamHeadphoneVol d) s = .next { s with cas := 0, mix := bankSet s.mix 2 v }

/-- R202, R204, R211: the other volume and gain registers store the data verbatim and set their host control. -/
def Obligations.VolumesAndGainsStoreVerbatim : Prop :=
  ∀ (d : Word) (s : State),
    exec (.out16NamMicVol d) s = .next
      { s with cas := 0, mix := bankSet s.mix 7 d,
               hostLog := .setVolume .micIn (volumeOf s.cfg.volMax d) :: s.hostLog } ∧
    exec (.out16NamLineInVol d) s = .next
      { s with cas := 0, mix := bankSet s.mix 8 d,
               hostLog := .setVolume .lineIn (volumeOf s.cfg.volMax d) :: s.hostLog } ∧
    exec (.out16NamPcmOutVol d) s = .next
      { s with cas := 0, mix := bankSet s.mix 12 d,
               hostLog := .setVolume .front (volumeOf s.cfg.volMax d) :: s.hostLog } ∧
    exec (.out16NamRecordGain d) s = .next
      { s with cas := 0, mix := bankSet s.mix 14 d,
               hostLog := .setVolume .lineInRec ⟨d.getLsbD 15, s.cfg.volMax, s.cfg.volMax⟩ :: s.hostLog } ∧
    exec (.out16NamRecordGainMic d) s = .next
      { s with cas := 0, mix := bankSet s.mix 15 d,
               hostLog := .setVolume .micRec ⟨d.getLsbD 15, s.cfg.volMax, s.cfg.volMax⟩ :: s.hostLog }

/-- R205: a record-select write keeps the two 3-bit codes, 5 and 6 turned to 0, and tells the host the sources; a value
that was read back is stored as it is. -/
def Obligations.RecordSelectKeepsCodes : Prop :=
  ∀ (d : Word) (s : State),
    let code : BitVec 3 → BitVec 3 := fun i => if i = 5 ∨ i = 6 then 0 else i
    let v : Word := 0#5 ++ code (d.extractLsb' 8 3) ++ 0#5 ++ code (d.extractLsb' 0 3)
    exec (.out16NamRecordSelect d) s = .next
      { s with
        cas := 0
        mix := bankSet s.mix 13 v
        hostLog := .setRecordingSource (recordSourceOf (d.extractLsb' 8 3)) (recordSourceOf (d.extractLsb' 0 3)) ::
          s.hostLog } ∧
    (∀ i : BitVec 3, (recordSourceOf i).code = code i) ∧
    ∃ t, exec (.out16NamRecordSelect v) s = .next t ∧ t.mix = bankSet s.mix 13 v

/-- R206, R207: a powerdown write keeps the ready bits 3:0; writes to the identification registers store nothing. Both
set the semaphore free. -/
def Obligations.PowerdownAndReadOnlyCodecRegisters : Prop :=
  ∀ (d : Word) (s : State),
    exec (.out16NamPowerdown d) s = .next
      { s with cas := 0, mix := bankSet s.mix 19 ((d &&& 0xFFF0) ||| (bankGet s.mix 19 &&& 0x000F)) } ∧
    exec (.out16NamExtAudioId d) s = .next { s with cas := 0 } ∧
    exec (.out16NamVendorId1 d) s = .next { s with cas := 0 } ∧
    exec (.out16NamVendorId2 d) s = .next { s with cas := 0 }

/-- R208: an extended-audio write stores its data; with VRA clear it sets the PO and PI rates to 48000 and reopens those
streams, with VRM clear the MC rate and stream. No guest-visible register of a stream changes. -/
def Obligations.ExtendedAudioControlDefaultsRates : Prop :=
  ∀ (d : Word) (s : State), ∃ t, exec (.out16NamExtAudioCtrl d) s = .next t ∧
    (let default : BitVec 7 → StreamId → State → State := fun reg k u =>
       reopen k { u with mix := bankSet u.mix reg 0xBB80 }
     let s1 := if d.getLsbD 0 then { s with cas := 0 } else default 0x19 .pi (default 0x16 .po { s with cas := 0 })
     let s2 := if d.getLsbD 3 then s1 else default 0x1A .mc s1
     t = { s2 with mix := bankSet s2.mix 0x15 d }) ∧
    bankGet t.mix 0x15 = d ∧
    (d.getLsbD 0 = false → bankGet t.mix 0x16 = 0xBB80 ∧ bankGet t.mix 0x19 = 0xBB80) ∧
    (d.getLsbD 0 = true → bankGet t.mix 0x16 = bankGet s.mix 0x16 ∧ bankGet t.mix 0x19 = bankGet s.mix 0x19 ∧
      t.rt.po = s.rt.po ∧ t.rt.pi = s.rt.pi) ∧
    (d.getLsbD 3 = false → bankGet t.mix 0x1A = 0xBB80) ∧
    (d.getLsbD 3 = true → bankGet t.mix 0x1A = bankGet s.mix 0x1A ∧ t.rt.mc = s.rt.mc) ∧
    (∀ k, d.getLsbD (rateGate k) = false → t.rt.get k = (reopen k { s with mix := t.mix }).rt.get k) ∧
    (∀ q : BitVec 7, q ≠ 0x15 → q ≠ 0x16 → q ≠ 0x19 → q ≠ 0x1A → bankGet t.mix q = bankGet s.mix q) ∧
    t.cas = 0 ∧ t.regs = s.regs ∧ t.globCnt = s.globCnt ∧ t.globSta = s.globSta ∧ KeepsOutside s t ∧
    t.result = s.result ∧ t.draws = s.draws

/-- R209: a rate write is stored and reopens its stream only while the gate bit of the stored Extended Audio Control is
set; otherwise it is ignored. The semaphore is set free either way. -/
def Obligations.RateWritesAreGated : Prop :=
  ∀ (k : StreamId) (d : Word) (s : State),
    let reg : BitVec 7 := match k with | .pi => 0x19 | .po => 0x16 | .mc => 0x1A
    let gate := match k with | .mc => 3 | _ => 0
    ((bankGet s.mix 0x15).getLsbD gate = true →
      exec (Port.rateWrite k d) s = .next (reopen k { s with cas := 0, mix := bankSet s.mix reg d })) ∧
    ((bankGet s.mix 0x15).getLsbD gate = false → exec (Port.rateWrite k d) s = .next { s with cas := 0 })

/-- R200, R45: a write of any value to the codec Reset register resets the whole device: every stream as after a stream
reset with the enable bits of CR kept and the runtime state that `Disable` leaves, the global registers 0, the codec bank at
its reset table (the suggested one or the platform's own, the record select 0 either way), INTA low. What lies outside the
device stays. The host gets the calls of R270 and R224, named here in no order: three closes, the record source, and the
volumes of the bank that was loaded. -/
def Obligations.CodecResetResetsDevice : Prop :=
  ∀ (d : Word) (s : State), ∃ t, exec (.out16NamReset d) s = .next t ∧
    (∀ k, t.regs.get k = ⟨0, 0, 0, 0x0001, 0, 0, (s.regs.get k).cr &&& 0x1C, false, 0, 0⟩ ∧
      t.rt.get k = (disable k s).rt.get k ∧
      (t.rt.get k).enabled = false ∧ (t.rt.get k).armed = false ∧ (t.rt.get k).ring = [] ∧
      (s.cfg.asyncMode = true → (t.rt.get k).workerEnabled = false)) ∧
    t.globCnt = 0 ∧ t.globSta = 0 ∧ t.cas = 0 ∧ t.inta = false ∧
    exec .in32NabmGlobSta t = .next { t with result := .dword 0x00000100 } ∧
    (s.cfg.mixerTable = none → ∀ q : BitVec 7, bankGet t.mix q = mixerResetAt (2 * q.toNat) s.cfg.codec) ∧
    (∀ b : Bank, s.cfg.mixerTable = some b → ∀ q : BitVec 7, q ≠ 0x0D → bankGet t.mix q = bankGet b q) ∧
    bankGet t.mix 0x0D = 0 ∧
    (∃ l : List HostCall, t.hostLog = l ++ s.hostLog ∧ l.Perm
      [.closeStream .pi, .closeStream .po, .closeStream .mc, .setRecordingSource .mic .mic,
        .setVolume .master (volumeOf s.cfg.volMax (bankGet t.mix 0x01)),
        .setVolume .micIn (volumeOf s.cfg.volMax (bankGet t.mix 0x07)),
        .setVolume .lineIn (volumeOf s.cfg.volMax (bankGet t.mix 0x08)),
        .setVolume .front (volumeOf s.cfg.volMax (bankGet t.mix 0x0C))]) ∧
    KeepsOutside s t ∧ t.result = s.result ∧ t.draws = s.draws

/-! ## Status and interrupt -/

/-- R170: SR takes the value; the contribution bit is untouched where the interrupt subset is unchanged, withdrawn where
it became 0, set where a qualifying bit is enabled, and untouched otherwise. -/
def Obligations.UpdateStatusDecidesContribution : Prop :=
  ∀ (k : StreamId) (v : Word) (s : State),
    let r := s.regs.get k
    let old := r.sr &&& 0x001C
    let new := v &&& 0x001C
    let enabled := (new &&& 0x0004 ≠ 0 ∧ r.cr.getLsbD 2 = true) ∨ (new &&& 0x0008 ≠ 0 ∧ r.cr.getLsbD 4 = true)
    ∃ g, updateStatus k v s = { s with regs := s.regs.set k { r with sr := v }, globSta := g } ∧
      (new = old → g = s.globSta) ∧
      (new ≠ old → new = 0 → g = s.globSta &&& ~~~(gsStream k)) ∧
      (new ≠ old → new ≠ 0 → enabled → g = s.globSta ||| gsStream k) ∧
      (new ≠ old → new ≠ 0 → ¬enabled → g = s.globSta)

/-- R34, R171: the line is high exactly when some stream's bit of GLOB_STA is set. -/
def Obligations.InterruptLineIsOrOfContributions : Prop :=
  ∀ s : State, (s.inta = true ↔ ∃ k, s.globSta &&& gsStream k ≠ 0) ∧
    gsStream .pi ||| gsStream .po ||| gsStream .mc = 0xE0

/-- The withdrawal rule that spec/43_status_interrupt.md draws from UpdateStatus for partial clears: whatever step runs,
unless it loads a record, a stream whose contribution goes away has LVBCI, BCIS and FIFOE all clear. -/
def Obligations.WithdrawalNeedsAllBitsClear : Prop :=
  ∀ (s t : State) (k : StreamId), step s = .next t → (∀ r, nextEvent s ≠ .agent (.load r)) →
    s.globSta &&& gsStream k ≠ 0 → t.globSta &&& gsStream k = 0 → (t.regs.get k).sr &&& 0x001C = 0

/-! ## Guest memory -/

/-- R64: where the platform backs an address with RAM and no store to it is in flight, the device reads the byte last
written there; a write leaves every other address alone; a write to an address without RAM has no effect, and a read
there is a draw. R63: a read wraps mod 2^32. -/
def Obligations.GuestMemoryReadsLastWrite : Prop :=
  ∀ (a : Addr) (b : Byte) (s : State),
    let t := s.writeByte a.toNat b
    (s.isRam a.toNat = true → (∀ c ∈ s.racing, c.1 ≠ a.toNat) → t.memRead a 1 = [b]) ∧
    (∀ c : Nat, c ≠ a.toNat → t.guestByte c = s.guestByte c) ∧
    (s.isRam a.toNat = false → t = s ∧ s.memRead a 1 = [Config.memDraw s.draws 0]) ∧
    (∀ n : Nat, s.memRead a (n + 1) = s.memRead a n ++ [s.readByte n ((a.toNat + n) % 2 ^ 32)])

/-! ## Descriptors and transfer -/

/-- R140, R141: a fetch reads the 8 bytes at `BDBAR + 8 * CIV` mod 2^32 into the cache and PICB; an advance takes PIV,
moves PIV on mod 32, and fetches there. Nothing else changes. -/
def Obligations.FetchAndAdvanceDescriptor : Prop :=
  ∀ (k : StreamId) (s : State),
    let r := s.regs.get k
    let load : StreamRegs → StreamRegs := fun q =>
      let bytes := s.memRead (q.bdbar + 8 * q.civ.setWidth 32) 8
      { q with
        bdAddr := dwordOfBytes bytes &&& 0xFFFFFFFC
        bdCtl := dwordOfBytes (bytes.drop 4)
        picb := (dwordOfBytes (bytes.drop 4)).setWidth 16
        bdValid := true }
    fetchBdle k s = { s with draws := s.draws + 1, regs := s.regs.set k (load r) } ∧
    advance k s = { s with draws := s.draws + 1, regs := s.regs.set k (load { r with civ := r.piv, piv := r.piv + 1 }) } ∧
    (r.piv + 1).toNat = (r.piv.toNat + 1) % 32

/-- R153: a completion sets BCIS where the descriptor has IOC; at the last valid index it sets DCH, LVBCI and CELV and
ends the call without an advance; otherwise it advances. -/
def Obligations.CompletionSetsStatusAndAdvances : Prop :=
  ∀ (k : StreamId) (s : State),
    let r := s.regs.get k
    let v := if r.bdCtl.getLsbD 31 then r.sr ||| 0x0008 else r.sr
    (r.civ = r.lvi → complete k s = (updateStatus k (v ||| 0x0007) s, .eof)) ∧
    (r.civ ≠ r.lvi → complete k s = (advance k (updateStatus k v s), .ok))

/-- R150: a call on a halted stream, or on one whose completion is not acknowledged, moves nothing and writes nothing. -/
def Obligations.TransferEntryTests : Prop :=
  ∀ (k : StreamId) (m : Nat) (s : State),
    ((s.regs.get k).sr.getLsbD 0 = true ∨ (s.regs.get k).sr.getLsbD 3 = true) → transfer k m s = (s, .ok)

/-- The stall that spec/42_dma_transfer.md draws from the loop condition: with a valid cache and PICB = 0 a call changes
nothing, however many bytes are asked for. -/
def Obligations.ZeroPositionStalls : Prop :=
  ∀ (k : StreamId) (m : Nat) (s : State),
    (s.regs.get k).bdValid = true → (s.regs.get k).picb = 0 → transfer k m s = (s, .ok)

/-- R152: the loop is the spec's while loop. With `n` the least of the bytes left to move, the descriptor's bytes and the
ring's room, rounded down to a sample, it ends where n = 0; else it moves n bytes between memory and ring, takes n/2 from
PICB, adds n to the address, completes the descriptor where PICB became 0, and goes on with the rest. -/
def Obligations.MoveLoopIsWhileLoop : Prop :=
  ∀ (k : StreamId) (m : Nat) (s : State),
    let r := s.regs.get k
    let rt := s.rt.get k
    let room := match k with | .po => rt.ringCap - rt.ring.length | _ => rt.ring.length
    let n0 := min (min m (2 * r.picb.toNat)) room
    let n := n0 - n0 % 2
    let moved : State := match k with
      | .po => { s with draws := s.draws + 1,
                        rt := s.rt.set k { rt with ring := rt.ring ++ s.memRead r.bdAddr n } }
      | _ => memWrite (rt.ring.take n) r.bdAddr { s with rt := s.rt.set k { rt with ring := rt.ring.drop n } }
    let s1 := { moved with
      regs := s.regs.set k
        { r with picb := BitVec.ofNat 16 (r.picb.toNat - n / 2), bdAddr := r.bdAddr + BitVec.ofNat 32 n } }
    (n = 0 → moveLoop k m m s = (s, .ok)) ∧
    (n ≠ 0 → (s1.regs.get k).picb ≠ 0 → moveLoop k m m s = moveLoop k (m - n) (m - n) s1) ∧
    (n ≠ 0 → (s1.regs.get k).picb = 0 → r.civ = r.lvi → moveLoop k m m s = complete k s1) ∧
    (n ≠ 0 → (s1.regs.get k).picb = 0 → r.civ ≠ r.lvi →
      moveLoop k m m s = moveLoop k (m - n) (m - n) (complete k s1).1)

/-- R155: a call returns EOF exactly when it took the underrun branch, that is when it halted a stream that was not
halted; and then DCH, CELV and LVBCI are set, CIV = LVI and PICB = 0. -/
def Obligations.TransferEofIffUnderrun : Prop :=
  ∀ (k : StreamId) (m : Nat) (s : State),
    let t := (transfer k m s).1
    ((transfer k m s).2 = .eof ↔
      (s.regs.get k).sr.getLsbD 0 = false ∧ (t.regs.get k).sr.getLsbD 0 = true) ∧
    ((transfer k m s).2 = .eof →
      (t.regs.get k).sr &&& 0x0007 = 0x0007 ∧ (t.regs.get k).civ = (t.regs.get k).lvi ∧ (t.regs.get k).picb = 0)

/-- A call of the output stream writes no guest memory. A call of an input stream that asks for no more than the
current descriptor holds writes only the `m` bytes from the cached address on: every other address reads as before
(the address the move of R152 stores to). -/
def Obligations.TransferMemoryFrame : Prop :=
  ∀ (k : StreamId) (m : Nat) (s : State),
    (k.isOut = true → (transfer k m s).1.mem = s.mem) ∧
    ((s.regs.get k).bdValid = true → m ≤ 2 * (s.regs.get k).picb.toNat →
      ∀ a : Nat, (∀ i < m, ((s.regs.get k).bdAddr + BitVec.ofNat 32 i).toNat ≠ a) →
        (transfer k m s).1.guestByte a = s.guestByte a)

/-- A call of the output stream on a running descriptor that it does not exhaust appends to the ring exactly the bytes
guest memory holds from the cached address on (from the move loop of spec/42_dma_transfer.md section on R152). -/
def Obligations.OutputMovesMemoryIntoRing : Prop :=
  ∀ (m : Nat) (s : State),
    s.regs.po.sr.getLsbD 0 = false → s.regs.po.sr.getLsbD 3 = false → s.regs.po.bdValid = true →
    m < 2 * s.regs.po.picb.toNat → m % 2 = 0 → m ≤ s.rt.po.ringCap - s.rt.po.ring.length → 0 < m →
    ∃ t, transfer .po m s = (t, .ok) ∧
      t.rt.po.ring = s.rt.po.ring ++ s.memRead s.regs.po.bdAddr m ∧
      t.regs.po.picb.toNat + m / 2 = s.regs.po.picb.toNat ∧
      t.regs.po.bdAddr = s.regs.po.bdAddr + BitVec.ofNat 32 m ∧
      t.regs.po.sr = s.regs.po.sr ∧ t.globSta = s.globSta ∧ t.mem = s.mem

/-! ## Scheduler and host -/

/-- Enable and Disable, from their pseudocode in spec/44_scheduler.md. Opening a closed stream takes its configuration, and
where the host's open succeeds empties the ring, sets the capacity and the period quantities, enables the stream and arms
its timer one period from now; a failed open leaves it closed; an open stream is left as it is. Disabling stops the timer,
empties the ring, closes the host stream and in `ASYNC_MODE` disables the worker. The model's choices and inferences in it:
the deadline's saturation (notes/assumptions/8.md), the worker created by the enable (17.md), the runtime fields that Disable
does not name (24.md), and the configuration kept after a failed open (28.md). -/
def Obligations.EnableOpensAndDisableCloses : Prop :=
  ∀ (k : StreamId) (s : State),
    let rt := s.rt.get k
    let c := streamConfigOf s.mix k
    let hz := timerHzFor s.cfg c.rate
    (rt.enabled = true → enable k s = s) ∧
    (rt.enabled = false → (s.host.get k).openOk = false →
      enable k s = { s with
        rt := s.rt.set k { rt with config := c }, hostLog := .openStream k c :: s.hostLog }) ∧
    (rt.enabled = false → (s.host.get k).openOk = true →
      enable k s = { s with
        rt := s.rt.set k
          { rt with
            config := c
            ring := []
            ringCap := s.cfg.ringCap.get k
            timerHz := hz
            bytesPerTick := bytesPerTickFor c hz
            ticksPerPeriod := s.cfg.vclockHz / hz
            enabled := true
            deadline := clockAdd s.vnow (s.cfg.vclockHz / hz)
            armed := true
            workerExists := rt.workerExists || s.cfg.asyncMode
            workerEnabled := rt.workerEnabled || s.cfg.asyncMode }
        hostLog := .openStream k c :: s.hostLog }) ∧
    disable k s = { s with
      rt := s.rt.set k
        { rt with
          armed := false
          ring := []
          enabled := false
          workerEnabled := rt.workerEnabled && !s.cfg.asyncMode }
      hostLog := .closeStream k :: s.hostLog }

/-- What a reopen does, from spec/44_scheduler.md with D36's words "re-arms one period later". A closed stream is left as it
is. The model's choices and inferences in it: the deadline's saturation (notes/assumptions/8.md), the timer's arming (9.md),
the whole Disable after a failed open (10.md) and the runtime fields it does not name (24.md). -/
def Obligations.ReopenRestartsHostStream : Prop :=
  ∀ (k : StreamId) (s : State),
    let rt := s.rt.get k
    let c := streamConfigOf s.mix k
    let hz := timerHzFor s.cfg c.rate
    let t := reopen k s
    (rt.enabled = false → t = s) ∧
    (rt.enabled = true → (s.host.get k).openOk = true →
      t.rt = s.rt.set k
        { rt with
          ring := []
          config := c
          timerHz := hz
          bytesPerTick := bytesPerTickFor c hz
          ticksPerPeriod := s.cfg.vclockHz / hz
          deadline := clockAdd s.vnow (s.cfg.vclockHz / hz)
          armed := true } ∧
      t.hostLog = .openStream k c :: .closeStream k :: s.hostLog) ∧
    (rt.enabled = true → (s.host.get k).openOk = false →
      t.rt = s.rt.set k
        { rt with
          ring := []
          config := c
          armed := false
          enabled := false
          workerEnabled := rt.workerEnabled && !s.cfg.asyncMode } ∧
      t.hostLog = .closeStream k :: .openStream k c :: .closeStream k :: s.hostLog) ∧
    t.regs = s.regs ∧ KeepsGlobals s t ∧ KeepsOutside s t ∧ t.result = s.result ∧ t.draws = s.draws ∧
    (∀ j, j ≠ k → t.rt.get j = s.rt.get j)

/-- R181, R182, R186: the frequency an override, a rate above 44100 Hz or the default selects, at least 1 on a platform that
meets the constraints; the bytes of a tick are the whole frames of one period; and each stream's rate register, channels and direction. -/
def Obligations.PeriodQuantities : Prop :=
  (∀ (p : Platform) (rate : Nat),
    (∀ f, p.timerHzOverride = some f → timerHzFor p rate = f) ∧
    (p.timerHzOverride = none → 44100 < rate → timerHzFor p rate = p.timerHzHigh) ∧
    (p.timerHzOverride = none → rate ≤ 44100 → timerHzFor p rate = p.timerHzDefault) ∧
    (p.ok = true → 1 ≤ timerHzFor p rate)) ∧
  (∀ (p : Platform) (c : StreamConfig) (hz b : Nat), 0 < c.channels →
    bytesPerTickFor c hz % (c.channels * 2) = 0 ∧
    bytesPerTickFor c hz ≤ c.rate * (c.channels * 2) / hz ∧
    c.rate * (c.channels * 2) / hz < bytesPerTickFor c hz + c.channels * 2 ∧
    (c.rate = 0 → bytesPerTickFor c hz = 0) ∧
    ticksPerPeriodFor p hz = p.vclockHz / hz ∧
    ticksFor p c b = b * p.vclockHz / (c.rate * (c.channels * 2))) ∧
  (∀ m : Bank,
    streamConfigOf m .pi = ⟨(bankGet m 0x19).toNat, 2, .input⟩ ∧
    streamConfigOf m .po = ⟨(bankGet m 0x16).toNat, 2, .output⟩ ∧
    streamConfigOf m .mc = ⟨(bankGet m 0x1A).toNat, 1, .input⟩)

/-- A tick, from its pseudocode in spec/44_scheduler.md. One that is enabled runs the data step (the transfer of
`BYTES_PER_TICK` bytes, after the host side for an input and before it for the output), records the time, and while the sink
is active sets the deadline `NextDelay` from now, else disarms. The re-arm delay is the suggested default or the platform's
free value (notes/assumptions/7.md), the deadline saturates (8.md), and a tick that is not enabled does nothing (16.md). -/
def Obligations.TickRunsAndRearms : Prop :=
  (∀ (k : StreamId) (s : State),
    let rt := s.rt.get k
    let due := rt.enabled = true ∧ rt.armed = true ∧ rt.deadline ≤ s.vnow
    let moved : State := match k with
      | .po => tickHostSide k (transfer k rt.bytesPerTick s).1
      | _ => (transfer k rt.bytesPerTick (tickHostSide k s)).1
    let timed : StreamRuntime := { moved.rt.get k with last := s.vnow }
    let delay := nextDelay s.cfg (moved.regs.get k) timed
    (¬due → tick k s = s) ∧
    (due → (s.host.get k).active = true →
      tick k s = { moved with rt := moved.rt.set k { timed with deadline := clockAdd s.vnow delay } } ∧
      timed.armed = true ∧ s.vnow ≤ clockAdd s.vnow delay) ∧
    (due → (s.host.get k).active = false →
      tick k s = { moved with rt := moved.rt.set k { timed with armed := false } })) ∧
  (∀ (p : Platform) (r : StreamRegs) (rt : StreamRuntime),
    let b := min rt.bytesPerTick (2 * r.picb.toNat)
    (p.suggestedDelay = false → nextDelay p r rt = Config.nextDelay r rt) ∧
    (p.suggestedDelay = true → 0 < b ∧ 0 < rt.config.rate →
      nextDelay p r rt = b * p.vclockHz / (rt.config.rate * (rt.config.channels * 2))) ∧
    (p.suggestedDelay = true → ¬(0 < b ∧ 0 < rt.config.rate) → nextDelay p r rt = rt.ticksPerPeriod))

/-- The host side, from its pseudocode in spec/46_host_interface.md: it moves from ring to sink, or from sink to ring, at
most what both sides offer and exactly what the sink took or gave; no guest-visible register changes. It runs inside the
tick, or under `ASYNC_MODE` in the worker, which the tick only notifies: a worker that wakes takes the notification, then
exits where it was told to, else runs the host side if it is enabled. The model's choices and inferences in it: a worker step
that is not enabled does nothing (notes/assumptions/16.md), when one is and what an exit leaves (17.md), and the sink's
surplus bytes (30.md). -/
def Obligations.HostSideMovesWhatSinkTakes : Prop :=
  ∀ (k : StreamId) (s : State),
    let rt := s.rt.get k
    let a := s.host.get k
    let n := min (min rt.ring.length a.writable) a.accepts
    let bytes := a.supplies.take (min (rt.ringCap - rt.ring.length) a.readable)
    (k = .po → hostSide k s = { s with
      rt := s.rt.set k { rt with ring := rt.ring.drop n }
      hostLog := .sinkUpdate k :: .sinkWrite k (rt.ring.take n) :: s.hostLog }) ∧
    (k ≠ .po → hostSide k s = { s with
      rt := s.rt.set k { rt with ring := rt.ring ++ bytes }
      hostLog := .sinkUpdate k :: .sinkRead k bytes :: s.hostLog }) ∧
    (s.cfg.asyncMode = false → tickHostSide k s = hostSide k s ∧ workerStep k s = s) ∧
    (s.cfg.asyncMode = true →
      let woken : StreamRuntime := { rt with workerSignalled := false }
      tickHostSide k s = { s with rt := s.rt.set k { rt with workerSignalled := true } } ∧
      (rt.workerExists = false ∨ rt.workerSignalled = false ∧ rt.workerShutdown = false → workerStep k s = s) ∧
      (rt.workerExists = true → rt.workerShutdown = true →
        workerStep k s = { s with rt := s.rt.set k { woken with workerExists := false } }) ∧
      (rt.workerExists = true → rt.workerSignalled = true → rt.workerShutdown = false →
        workerStep k s =
          if rt.workerEnabled then hostSide k { s with rt := s.rt.set k woken }
          else { s with rt := s.rt.set k woken }))

/-- The round trip that spec/46_host_interface.md draws for save and load: loading the record a state saves, into any
device of any state, gives that state's registers and codec bank, and where the host's opens succeed enables exactly the
streams that were enabled, with empty rings. -/
def Obligations.SaveThenLoadRestoresRegisters : Prop :=
  ∀ s u : State,
    let t := loadRecord (saveRecord s) u
    t.regs = s.regs ∧ t.globCnt = s.globCnt ∧ t.globSta = s.globSta ∧ t.cas = s.cas ∧ t.mix = s.mix ∧
    t.inta = s.inta ∧
    ∀ k, ((u.host.get k).openOk = true → (t.rt.get k).enabled = (s.rt.get k).enabled) ∧ (t.rt.get k).ring = []

/-- The bytes of a record (spec/46_host_interface.md, the layout of R236): 331 of them, and they give the record back. The
record has no version, and how other bytes are read is the model's choice (notes/assumptions/18.md). -/
def Obligations.RecordBytesRoundTrip : Prop :=
  ∀ r : SaveRecord, (recordBytes r).length = 331 ∧ recordOfBytes (recordBytes r) = some r

/-! ## Encoding and steps -/

/-- Decoding the encoding of a well-formed instruction gives it back, with every operand (R80, R82, R86). -/
def Obligations.DecodeEncodeAgree : Prop :=
  ∀ i : Instr, i.WellFormed → decode (encode i).1 (encode i).2 = .ok i

/-- What the decoder accepts is well-formed and encodes to the same word: no two words share a meaning, and no word is
read as a row that is not its own (R87). -/
def Obligations.DecodedWordIsItsOwn : Prop :=
  ∀ (t : Word) (d : Dword) (i : Instr), decode t d = .ok i → i.WellFormed ∧ i.word = t

/-- The decoder refuses exactly the words that name no transaction: width field 11, a bit of 11:8 set, or a bus-master
offset of 0x40 or more (R80, R88 (a)). -/
def Obligations.RefusedWordsNameNoTransaction : Prop :=
  ∀ (t : Word) (d : Dword),
    (∃ e, decode t d = .error e) ↔
      t.toNat / 4096 % 4 = 3 ∨ t.toNat / 256 % 16 ≠ 0 ∨ (t.getLsbD 14 = false ∧ 0x40 ≤ t.toNat % 256)

/-- Words written out from R80 and the rows of the opcode table decode to their instructions. -/
def Obligations.SampleWordsDecode : Prop :=
  decode 0xA010 0x00001000 = .ok (.out32NabmPoBdbar 0x00001000) ∧
  decode 0x801B 0x11 = .ok (.out8NabmPoCr 0x11) ∧
  decode 0x2014 0 = .ok .in32NabmPoCiv ∧
  decode 0x9016 0x0008 = .ok (.out16NabmPoSr 0x0008) ∧
  decode 0x0034 0 = .ok .in8NabmCas ∧
  decode 0x1014 0 = .ok (.in16NabmUnsupported 0x14) ∧
  decode 0x507C 0 = .ok (.in16NamReg 0x3E) ∧
  decode 0xD01A 0xFF04 = .ok (.out16NamRecordSelect 0xFF04) ∧
  decode 0xC000 0 = .ok (.out8NamUnsupported 0 0) ∧
  decode 0x5003 0 = .ok (.in16NamOdd 1)

/-- A step whose next event is a port transaction that decodes to an instruction is `exec` of it, in the state that has
taken the event off the queue with the host's answers for the step; so is a guest's access of the port address at an offset
from one of the two bases, and one of an address in neither region leaves that state as it is (the bases and this are the
model's: notes/assumptions/31.md); another agent's event is that agent's step. -/
def Obligations.StepRunsNextEvent : Prop :=
  ∀ (s : State) (rest : List Event),
    let u : State := { s with pending := rest, host := Config.hostAnswers s.draws, draws := s.draws + 1 }
    (∀ (t : Word) (d : Dword) (i : Instr), s.pending = .port t d :: rest → decode t d = .ok i → step s = exec i u) ∧
    (∀ (write : Bool) (w : AccessWidth) (off : BitVec 6) (d : Dword) (i : Instr),
      s.pending = .access write w (s.cfg.nabmBase + off.toNat) d :: rest →
      decode (encodeWord write false w.code (off.setWidth 8)) d = .ok i → step s = exec i u) ∧
    (∀ (write : Bool) (w : AccessWidth) (off : BitVec 8) (d : Dword) (i : Instr), s.cfg.ok = true →
      s.pending = .access write w (s.cfg.namBase + off.toNat) d :: rest →
      decode (encodeWord write true w.code off) d = .ok i → step s = exec i u) ∧
    (∀ (write : Bool) (w : AccessWidth) (port : Nat) (d : Dword), s.pending = .access write w port d :: rest →
      ¬(s.cfg.nabmBase ≤ port ∧ port < s.cfg.nabmBase + 64) → ¬(s.cfg.namBase ≤ port ∧ port < s.cfg.namBase + 256) →
      step s = .next u) ∧
    (∀ e : AgentEvent, s.pending = .agent e :: rest → step s = .next (agentStep e u))

/-- R250 with R88 (a): a step never faults, and is refused only for a port word that names no transaction. -/
def Obligations.StepIsRefusedOnlyForBadWords : Prop :=
  ∀ s : State, (∃ t, step s = .next t) ∨
    ∃ (t : Word) (d : Dword) (e : DecodeReject),
      nextEvent s = .port t d ∧ decode t d = .error e ∧ step s = .refused (.noTransaction e)

/-- What R45 and R239 give for the machine after construction, on the platform of the suggested parameters: the guest-
visible registers, every stream disabled with its timer disarmed and its ring empty; and that a device reset of it gives
the same registers again. -/
def Obligations.ResetStateIsIdle : Prop :=
  let s := State.reset
  (∀ k, s.regs.get k = ⟨0, 0, 0, 0x0001, 0, 0, 0x00, false, 0, 0⟩ ∧
    (s.rt.get k).enabled = false ∧ (s.rt.get k).armed = false ∧ (s.rt.get k).ring = []) ∧
  s.globCnt = 0 ∧ s.globSta = 0 ∧ s.cas = 0 ∧ s.inta = false ∧
  exec .in32NabmGlobSta s = .next { s with result := .dword 0x00000100 } ∧
  (∀ q : BitVec 7, bankGet s.mix q = mixerResetAt (2 * q.toNat) s.cfg.codec) ∧
  (deviceReset s).regs = s.regs ∧ (deviceReset s).mix = s.mix

/-- The good states of `Safety.lean` hold at reset. -/
def Obligations.ResetIsGood : Prop :=
  MachineOk State.reset ∧ GuestOk State.reset

/-- Every step keeps `MachineOk`: memory canonical and backed, rings bounded, closed streams without timer, ring or
worker (R38, R64, R187). -/
def Obligations.StepKeepsMachineGood : Prop :=
  ∀ s t : State, MachineOk s → step s = .next t → MachineOk t

/-- Every step but the load of a foreign record keeps the shape of the guest-visible registers (R23 to R33, R143, R153,
R157, R240). -/
def Obligations.StepKeepsGuestRegistersGood : Prop :=
  ∀ s t : State, GuestOk s → loadsGoodRecord (nextEvent s) → step s = .next t → GuestOk t

/-- Guest memory changes only in a tick of an input stream or when a guest store completes: no port transaction, no
output tick, no worker, save, load or reset writes it (R61, R152). -/
def Obligations.OnlyInputTicksAndStoresWriteMemory : Prop :=
  ∀ s t : State, step s = .next t → mayWriteMemory (nextEvent s) = false →
    t.mem = s.mem ∧ ∀ a, t.guestByte a = s.guestByte a

/-- No port transaction touches guest memory, the stores in flight, the clock, the platform, the schedule or the host's
answers, and every one of them completes (R67, R250). -/
def Obligations.PortTransactionsStayInside : Prop :=
  ∀ (i : Instr) (s : State), ∃ t, exec i s = .next t ∧ KeepsOutside s t

/-- No step moves the virtual clock back (spec/44_scheduler.md on the clock) or changes the platform's parameters. That
CODEC_MODEL is fixed is spec/10_state.md section 4; that every other parameter of spec/00_scope.md section 4 is fixed too is
the model's choice: notes/assumptions/6.md, with 4.md (the RAM map), 7.md (NextDelay), 20.md (the mixer table) and 31.md (the
port bases). So is the clock's stop at its largest value (8.md). -/
def Obligations.ClockNeverGoesBack : Prop :=
  ∀ s t : State, step s = .next t → s.vnow ≤ t.vnow ∧ t.cfg = s.cfg

/-- R188: an event that writes a stream's deadline writes a value that is not earlier than the clock; whatever the host
answers, so in every step (`step` is `runEvent` of the next event). -/
def Obligations.DeadlineIsNeverEarly : Prop :=
  ∀ (e : Event) (s t : State) (k : StreamId), runEvent e s = .next t →
    (t.rt.get k).deadline ≠ (s.rt.get k).deadline → t.vnow ≤ (t.rt.get k).deadline

/-- A tick or a worker step of one stream leaves the registers, the runtime state and the contribution of every other
stream as they were (spec/43_status_interrupt.md on cross-stream independence, spec/60_exceptions.md section 4). -/
def Obligations.TicksLeaveOtherStreamsAlone : Prop :=
  ∀ (j k : StreamId) (s : State), j ≠ k → ∀ e, (e = AgentEvent.tick k ∨ e = AgentEvent.worker k) →
    (agentStep e s).regs.get j = s.regs.get j ∧ (agentStep e s).rt.get j = s.rt.get j ∧
    (agentStep e s).globSta &&& gsStream j = s.globSta &&& gsStream j ∧
    (agentStep e s).globCnt = s.globCnt ∧ (agentStep e s).cas = s.cas ∧ (agentStep e s).mix = s.mix

/-- While a completion is not acknowledged no tick moves data between memory and ring (the reading that
spec/42_dma_transfer.md gives of its entry tests): with BCIS set a tick changes no memory and no guest-visible register, and
all that happens to the ring is the host side's: PCM Out's gains nothing, an input's loses nothing. A tick that is not
enabled does nothing (notes/assumptions/16.md). -/
def Obligations.UnacknowledgedCompletionStopsTicks : Prop :=
  ∀ (k : StreamId) (s : State), (s.regs.get k).sr.getLsbD 3 = true →
    let rt := s.rt.get k
    let due := rt.enabled = true ∧ rt.armed = true ∧ rt.deadline ≤ s.vnow
    let t := tick k s
    t.regs = s.regs ∧ KeepsGlobals s t ∧ t.mem = s.mem ∧
    (due → (t.rt.get k).ring = ((tickHostSide k s).rt.get k).ring) ∧ (¬due → t = s) ∧
    (k = .po → ∃ n, (t.rt.get k).ring = rt.ring.drop n) ∧
    (k ≠ .po → ∃ bytes, (t.rt.get k).ring = rt.ring ++ bytes)

/-- R176's and R257's acknowledgement (drawn by the spec from UpdateStatus): writing the set interrupt bits back to SR
withdraws the contribution, and the line falls if no other stream contributes. -/
def Obligations.AcknowledgeDropsInterrupt : Prop :=
  ∀ (k : StreamId) (s : State), (s.regs.get k).sr &&& 0x001C ≠ 0 →
    ∃ t, exec (Port.srWrite k (s.regs.get k).sr) s = .next t ∧
      (t.regs.get k).sr &&& 0x001C = 0 ∧ t.globSta &&& gsStream k = 0 ∧
      ((∀ j, j ≠ k → s.globSta &&& gsStream j = 0) → t.inta = false)
end

