-- ==== Sys2Proof/Laws/State.lean ====
section
/-!
SUPPORT. One lemma per field per update of the state, so that no later proof unfolds a record update, and the two laws
of a triple.
-/

namespace Sys2Proof

@[simp] theorem Tri.get_set_self {α : Type} (t : Tri α) (k : StreamId) (a : α) : (t.set k a).get k = a := by
  cases k <;> rfl

theorem Tri.get_set_ne {α : Type} (t : Tri α) {j k : StreamId} (a : α) (h : j ≠ k) : (t.set k a).get j = t.get j := by
  cases j <;> cases k <;> first | rfl | exact absurd rfl h

theorem Tri.get_set {α : Type} (t : Tri α) (j k : StreamId) (a : α) :
    (t.set k a).get j = if j = k then a else t.get j := by
  cases j <;> cases k <;> rfl

@[simp] theorem Tri.set_set {α : Type} (t : Tri α) (k : StreamId) (a b : α) : (t.set k a).set k b = t.set k b := by
  cases k <;> rfl

@[simp] theorem Tri.set_get {α : Type} (t : Tri α) (k : StreamId) : t.set k (t.get k) = t := by
  cases k <;> rfl

theorem Tri.ext_get {α : Type} {t u : Tri α} (h : ∀ k, t.get k = u.get k) : t = u := by
  obtain ⟨a, b, c⟩ := t
  obtain ⟨d, e, f⟩ := u
  have h1 : a = d := h .pi
  have h2 : b = e := h .po
  have h3 : c = f := h .mc
  subst h1; subst h2; subst h3
  rfl

end Sys2Proof

namespace Sys2Proof.Machine

open Sys2Proof

@[simp] theorem State.modRegs_regs (s : State) (k : StreamId) (f : StreamRegs → StreamRegs) :
    (s.modRegs k f).regs = s.regs.set k (f (s.regs.get k)) := rfl
@[simp] theorem State.modRegs_rt (s : State) (k : StreamId) (f : StreamRegs → StreamRegs) :
    (s.modRegs k f).rt = s.rt := rfl
@[simp] theorem State.modRegs_globCnt (s : State) (k : StreamId) (f : StreamRegs → StreamRegs) :
    (s.modRegs k f).globCnt = s.globCnt := rfl
@[simp] theorem State.modRegs_globSta (s : State) (k : StreamId) (f : StreamRegs → StreamRegs) :
    (s.modRegs k f).globSta = s.globSta := rfl
@[simp] theorem State.modRegs_cas (s : State) (k : StreamId) (f : StreamRegs → StreamRegs) :
    (s.modRegs k f).cas = s.cas := rfl
@[simp] theorem State.modRegs_mix (s : State) (k : StreamId) (f : StreamRegs → StreamRegs) :
    (s.modRegs k f).mix = s.mix := rfl
@[simp] theorem State.modRegs_mem (s : State) (k : StreamId) (f : StreamRegs → StreamRegs) :
    (s.modRegs k f).mem = s.mem := rfl
@[simp] theorem State.modRegs_racing (s : State) (k : StreamId) (f : StreamRegs → StreamRegs) :
    (s.modRegs k f).racing = s.racing := rfl
@[simp] theorem State.modRegs_vnow (s : State) (k : StreamId) (f : StreamRegs → StreamRegs) :
    (s.modRegs k f).vnow = s.vnow := rfl
@[simp] theorem State.modRegs_cfg (s : State) (k : StreamId) (f : StreamRegs → StreamRegs) :
    (s.modRegs k f).cfg = s.cfg := rfl
@[simp] theorem State.modRegs_result (s : State) (k : StreamId) (f : StreamRegs → StreamRegs) :
    (s.modRegs k f).result = s.result := rfl
@[simp] theorem State.modRegs_pending (s : State) (k : StreamId) (f : StreamRegs → StreamRegs) :
    (s.modRegs k f).pending = s.pending := rfl
@[simp] theorem State.modRegs_host (s : State) (k : StreamId) (f : StreamRegs → StreamRegs) :
    (s.modRegs k f).host = s.host := rfl
@[simp] theorem State.modRegs_draws (s : State) (k : StreamId) (f : StreamRegs → StreamRegs) :
    (s.modRegs k f).draws = s.draws := rfl
@[simp] theorem State.modRegs_hostLog (s : State) (k : StreamId) (f : StreamRegs → StreamRegs) :
    (s.modRegs k f).hostLog = s.hostLog := rfl

@[simp] theorem State.modRt_regs (s : State) (k : StreamId) (f : StreamRuntime → StreamRuntime) :
    (s.modRt k f).regs = s.regs := rfl
@[simp] theorem State.modRt_rt (s : State) (k : StreamId) (f : StreamRuntime → StreamRuntime) :
    (s.modRt k f).rt = s.rt.set k (f (s.rt.get k)) := rfl
@[simp] theorem State.modRt_globCnt (s : State) (k : StreamId) (f : StreamRuntime → StreamRuntime) :
    (s.modRt k f).globCnt = s.globCnt := rfl
@[simp] theorem State.modRt_globSta (s : State) (k : StreamId) (f : StreamRuntime → StreamRuntime) :
    (s.modRt k f).globSta = s.globSta := rfl
@[simp] theorem State.modRt_cas (s : State) (k : StreamId) (f : StreamRuntime → StreamRuntime) :
    (s.modRt k f).cas = s.cas := rfl
@[simp] theorem State.modRt_mix (s : State) (k : StreamId) (f : StreamRuntime → StreamRuntime) :
    (s.modRt k f).mix = s.mix := rfl
@[simp] theorem State.modRt_mem (s : State) (k : StreamId) (f : StreamRuntime → StreamRuntime) :
    (s.modRt k f).mem = s.mem := rfl
@[simp] theorem State.modRt_racing (s : State) (k : StreamId) (f : StreamRuntime → StreamRuntime) :
    (s.modRt k f).racing = s.racing := rfl
@[simp] theorem State.modRt_vnow (s : State) (k : StreamId) (f : StreamRuntime → StreamRuntime) :
    (s.modRt k f).vnow = s.vnow := rfl
@[simp] theorem State.modRt_cfg (s : State) (k : StreamId) (f : StreamRuntime → StreamRuntime) :
    (s.modRt k f).cfg = s.cfg := rfl
@[simp] theorem State.modRt_result (s : State) (k : StreamId) (f : StreamRuntime → StreamRuntime) :
    (s.modRt k f).result = s.result := rfl
@[simp] theorem State.modRt_pending (s : State) (k : StreamId) (f : StreamRuntime → StreamRuntime) :
    (s.modRt k f).pending = s.pending := rfl
@[simp] theorem State.modRt_host (s : State) (k : StreamId) (f : StreamRuntime → StreamRuntime) :
    (s.modRt k f).host = s.host := rfl
@[simp] theorem State.modRt_draws (s : State) (k : StreamId) (f : StreamRuntime → StreamRuntime) :
    (s.modRt k f).draws = s.draws := rfl
@[simp] theorem State.modRt_hostLog (s : State) (k : StreamId) (f : StreamRuntime → StreamRuntime) :
    (s.modRt k f).hostLog = s.hostLog := rfl

@[simp] theorem State.answer_regs (s : State) (r : PortResult) :
    (s.answer r).regs = s.regs := rfl
@[simp] theorem State.answer_rt (s : State) (r : PortResult) :
    (s.answer r).rt = s.rt := rfl
@[simp] theorem State.answer_globCnt (s : State) (r : PortResult) :
    (s.answer r).globCnt = s.globCnt := rfl
@[simp] theorem State.answer_globSta (s : State) (r : PortResult) :
    (s.answer r).globSta = s.globSta := rfl
@[simp] theorem State.answer_cas (s : State) (r : PortResult) :
    (s.answer r).cas = s.cas := rfl
@[simp] theorem State.answer_mix (s : State) (r : PortResult) :
    (s.answer r).mix = s.mix := rfl
@[simp] theorem State.answer_mem (s : State) (r : PortResult) :
    (s.answer r).mem = s.mem := rfl
@[simp] theorem State.answer_racing (s : State) (r : PortResult) :
    (s.answer r).racing = s.racing := rfl
@[simp] theorem State.answer_vnow (s : State) (r : PortResult) :
    (s.answer r).vnow = s.vnow := rfl
@[simp] theorem State.answer_cfg (s : State) (r : PortResult) :
    (s.answer r).cfg = s.cfg := rfl
@[simp] theorem State.answer_result (s : State) (r : PortResult) :
    (s.answer r).result = r := rfl
@[simp] theorem State.answer_pending (s : State) (r : PortResult) :
    (s.answer r).pending = s.pending := rfl
@[simp] theorem State.answer_host (s : State) (r : PortResult) :
    (s.answer r).host = s.host := rfl
@[simp] theorem State.answer_draws (s : State) (r : PortResult) :
    (s.answer r).draws = s.draws := rfl
@[simp] theorem State.answer_hostLog (s : State) (r : PortResult) :
    (s.answer r).hostLog = s.hostLog := rfl

@[simp] theorem State.logHost_regs (s : State) (c : HostCall) :
    (s.logHost c).regs = s.regs := rfl
@[simp] theorem State.logHost_rt (s : State) (c : HostCall) :
    (s.logHost c).rt = s.rt := rfl
@[simp] theorem State.logHost_globCnt (s : State) (c : HostCall) :
    (s.logHost c).globCnt = s.globCnt := rfl
@[simp] theorem State.logHost_globSta (s : State) (c : HostCall) :
    (s.logHost c).globSta = s.globSta := rfl
@[simp] theorem State.logHost_cas (s : State) (c : HostCall) :
    (s.logHost c).cas = s.cas := rfl
@[simp] theorem State.logHost_mix (s : State) (c : HostCall) :
    (s.logHost c).mix = s.mix := rfl
@[simp] theorem State.logHost_mem (s : State) (c : HostCall) :
    (s.logHost c).mem = s.mem := rfl
@[simp] theorem State.logHost_racing (s : State) (c : HostCall) :
    (s.logHost c).racing = s.racing := rfl
@[simp] theorem State.logHost_vnow (s : State) (c : HostCall) :
    (s.logHost c).vnow = s.vnow := rfl
@[simp] theorem State.logHost_cfg (s : State) (c : HostCall) :
    (s.logHost c).cfg = s.cfg := rfl
@[simp] theorem State.logHost_result (s : State) (c : HostCall) :
    (s.logHost c).result = s.result := rfl
@[simp] theorem State.logHost_pending (s : State) (c : HostCall) :
    (s.logHost c).pending = s.pending := rfl
@[simp] theorem State.logHost_host (s : State) (c : HostCall) :
    (s.logHost c).host = s.host := rfl
@[simp] theorem State.logHost_draws (s : State) (c : HostCall) :
    (s.logHost c).draws = s.draws := rfl
@[simp] theorem State.logHost_hostLog (s : State) (c : HostCall) :
    (s.logHost c).hostLog = c :: s.hostLog := rfl

@[simp] theorem State.setMix_regs (s : State) (r : BitVec 7) (v : Word) :
    (s.setMix r v).regs = s.regs := rfl
@[simp] theorem State.setMix_rt (s : State) (r : BitVec 7) (v : Word) :
    (s.setMix r v).rt = s.rt := rfl
@[simp] theorem State.setMix_globCnt (s : State) (r : BitVec 7) (v : Word) :
    (s.setMix r v).globCnt = s.globCnt := rfl
@[simp] theorem State.setMix_globSta (s : State) (r : BitVec 7) (v : Word) :
    (s.setMix r v).globSta = s.globSta := rfl
@[simp] theorem State.setMix_cas (s : State) (r : BitVec 7) (v : Word) :
    (s.setMix r v).cas = s.cas := rfl
@[simp] theorem State.setMix_mix (s : State) (r : BitVec 7) (v : Word) :
    (s.setMix r v).mix = bankSet s.mix r v := rfl
@[simp] theorem State.setMix_mem (s : State) (r : BitVec 7) (v : Word) :
    (s.setMix r v).mem = s.mem := rfl
@[simp] theorem State.setMix_racing (s : State) (r : BitVec 7) (v : Word) :
    (s.setMix r v).racing = s.racing := rfl
@[simp] theorem State.setMix_vnow (s : State) (r : BitVec 7) (v : Word) :
    (s.setMix r v).vnow = s.vnow := rfl
@[simp] theorem State.setMix_cfg (s : State) (r : BitVec 7) (v : Word) :
    (s.setMix r v).cfg = s.cfg := rfl
@[simp] theorem State.setMix_result (s : State) (r : BitVec 7) (v : Word) :
    (s.setMix r v).result = s.result := rfl
@[simp] theorem State.setMix_pending (s : State) (r : BitVec 7) (v : Word) :
    (s.setMix r v).pending = s.pending := rfl
@[simp] theorem State.setMix_host (s : State) (r : BitVec 7) (v : Word) :
    (s.setMix r v).host = s.host := rfl
@[simp] theorem State.setMix_draws (s : State) (r : BitVec 7) (v : Word) :
    (s.setMix r v).draws = s.draws := rfl
@[simp] theorem State.setMix_hostLog (s : State) (r : BitVec 7) (v : Word) :
    (s.setMix r v).hostLog = s.hostLog := rfl

@[simp] theorem State.freeSemaphore_regs (s : State) :
    (s.freeSemaphore).regs = s.regs := rfl
@[simp] theorem State.freeSemaphore_rt (s : State) :
    (s.freeSemaphore).rt = s.rt := rfl
@[simp] theorem State.freeSemaphore_globCnt (s : State) :
    (s.freeSemaphore).globCnt = s.globCnt := rfl
@[simp] theorem State.freeSemaphore_globSta (s : State) :
    (s.freeSemaphore).globSta = s.globSta := rfl
@[simp] theorem State.freeSemaphore_cas (s : State) :
    (s.freeSemaphore).cas = 0 := rfl
@[simp] theorem State.freeSemaphore_mix (s : State) :
    (s.freeSemaphore).mix = s.mix := rfl
@[simp] theorem State.freeSemaphore_mem (s : State) :
    (s.freeSemaphore).mem = s.mem := rfl
@[simp] theorem State.freeSemaphore_racing (s : State) :
    (s.freeSemaphore).racing = s.racing := rfl
@[simp] theorem State.freeSemaphore_vnow (s : State) :
    (s.freeSemaphore).vnow = s.vnow := rfl
@[simp] theorem State.freeSemaphore_cfg (s : State) :
    (s.freeSemaphore).cfg = s.cfg := rfl
@[simp] theorem State.freeSemaphore_result (s : State) :
    (s.freeSemaphore).result = s.result := rfl
@[simp] theorem State.freeSemaphore_pending (s : State) :
    (s.freeSemaphore).pending = s.pending := rfl
@[simp] theorem State.freeSemaphore_host (s : State) :
    (s.freeSemaphore).host = s.host := rfl
@[simp] theorem State.freeSemaphore_draws (s : State) :
    (s.freeSemaphore).draws = s.draws := rfl
@[simp] theorem State.freeSemaphore_hostLog (s : State) :
    (s.freeSemaphore).hostLog = s.hostLog := rfl

@[simp] theorem State.nextDraw_regs (s : State) :
    (s.nextDraw).regs = s.regs := rfl
@[simp] theorem State.nextDraw_rt (s : State) :
    (s.nextDraw).rt = s.rt := rfl
@[simp] theorem State.nextDraw_globCnt (s : State) :
    (s.nextDraw).globCnt = s.globCnt := rfl
@[simp] theorem State.nextDraw_globSta (s : State) :
    (s.nextDraw).globSta = s.globSta := rfl
@[simp] theorem State.nextDraw_cas (s : State) :
    (s.nextDraw).cas = s.cas := rfl
@[simp] theorem State.nextDraw_mix (s : State) :
    (s.nextDraw).mix = s.mix := rfl
@[simp] theorem State.nextDraw_mem (s : State) :
    (s.nextDraw).mem = s.mem := rfl
@[simp] theorem State.nextDraw_racing (s : State) :
    (s.nextDraw).racing = s.racing := rfl
@[simp] theorem State.nextDraw_vnow (s : State) :
    (s.nextDraw).vnow = s.vnow := rfl
@[simp] theorem State.nextDraw_cfg (s : State) :
    (s.nextDraw).cfg = s.cfg := rfl
@[simp] theorem State.nextDraw_result (s : State) :
    (s.nextDraw).result = s.result := rfl
@[simp] theorem State.nextDraw_pending (s : State) :
    (s.nextDraw).pending = s.pending := rfl
@[simp] theorem State.nextDraw_host (s : State) :
    (s.nextDraw).host = s.host := rfl
@[simp] theorem State.nextDraw_draws (s : State) :
    (s.nextDraw).draws = s.draws + 1 := rfl
@[simp] theorem State.nextDraw_hostLog (s : State) :
    (s.nextDraw).hostLog = s.hostLog := rfl

end Sys2Proof.Machine
end

