-- ==== Sys2Proof/Laws/Ops.lean ====
section
/-!
SUPPORT. What each shared operation leaves unchanged, field by field, and what it does to what it changes.
-/

namespace Sys2Proof.Machine

open Sys2Proof

@[simp] theorem fetchBdle_rt (k : StreamId) (s : State) : (fetchBdle k s).rt = s.rt := rfl
@[simp] theorem fetchBdle_globCnt (k : StreamId) (s : State) : (fetchBdle k s).globCnt = s.globCnt := rfl
@[simp] theorem fetchBdle_globSta (k : StreamId) (s : State) : (fetchBdle k s).globSta = s.globSta := rfl
@[simp] theorem fetchBdle_cas (k : StreamId) (s : State) : (fetchBdle k s).cas = s.cas := rfl
@[simp] theorem fetchBdle_mix (k : StreamId) (s : State) : (fetchBdle k s).mix = s.mix := rfl
@[simp] theorem fetchBdle_mem (k : StreamId) (s : State) : (fetchBdle k s).mem = s.mem := rfl
@[simp] theorem fetchBdle_racing (k : StreamId) (s : State) : (fetchBdle k s).racing = s.racing := rfl
@[simp] theorem fetchBdle_vnow (k : StreamId) (s : State) : (fetchBdle k s).vnow = s.vnow := rfl
@[simp] theorem fetchBdle_cfg (k : StreamId) (s : State) : (fetchBdle k s).cfg = s.cfg := rfl
@[simp] theorem fetchBdle_result (k : StreamId) (s : State) : (fetchBdle k s).result = s.result := rfl
@[simp] theorem fetchBdle_pending (k : StreamId) (s : State) : (fetchBdle k s).pending = s.pending := rfl
@[simp] theorem fetchBdle_host (k : StreamId) (s : State) : (fetchBdle k s).host = s.host := rfl
@[simp] theorem fetchBdle_hostLog (k : StreamId) (s : State) : (fetchBdle k s).hostLog = s.hostLog := rfl

@[simp] theorem advance_rt (k : StreamId) (s : State) : (advance k s).rt = s.rt := rfl
@[simp] theorem advance_globCnt (k : StreamId) (s : State) : (advance k s).globCnt = s.globCnt := rfl
@[simp] theorem advance_globSta (k : StreamId) (s : State) : (advance k s).globSta = s.globSta := rfl
@[simp] theorem advance_cas (k : StreamId) (s : State) : (advance k s).cas = s.cas := rfl
@[simp] theorem advance_mix (k : StreamId) (s : State) : (advance k s).mix = s.mix := rfl
@[simp] theorem advance_mem (k : StreamId) (s : State) : (advance k s).mem = s.mem := rfl
@[simp] theorem advance_racing (k : StreamId) (s : State) : (advance k s).racing = s.racing := rfl
@[simp] theorem advance_vnow (k : StreamId) (s : State) : (advance k s).vnow = s.vnow := rfl
@[simp] theorem advance_cfg (k : StreamId) (s : State) : (advance k s).cfg = s.cfg := rfl
@[simp] theorem advance_result (k : StreamId) (s : State) : (advance k s).result = s.result := rfl
@[simp] theorem advance_pending (k : StreamId) (s : State) : (advance k s).pending = s.pending := rfl
@[simp] theorem advance_host (k : StreamId) (s : State) : (advance k s).host = s.host := rfl
@[simp] theorem advance_hostLog (k : StreamId) (s : State) : (advance k s).hostLog = s.hostLog := rfl

@[simp] theorem updateStatus_rt (k : StreamId) (v : Word) (s : State) : (updateStatus k v s).rt = s.rt := rfl
@[simp] theorem updateStatus_globCnt (k : StreamId) (v : Word) (s : State) : (updateStatus k v s).globCnt = s.globCnt := rfl
@[simp] theorem updateStatus_cas (k : StreamId) (v : Word) (s : State) : (updateStatus k v s).cas = s.cas := rfl
@[simp] theorem updateStatus_mix (k : StreamId) (v : Word) (s : State) : (updateStatus k v s).mix = s.mix := rfl
@[simp] theorem updateStatus_mem (k : StreamId) (v : Word) (s : State) : (updateStatus k v s).mem = s.mem := rfl
@[simp] theorem updateStatus_racing (k : StreamId) (v : Word) (s : State) : (updateStatus k v s).racing = s.racing := rfl
@[simp] theorem updateStatus_vnow (k : StreamId) (v : Word) (s : State) : (updateStatus k v s).vnow = s.vnow := rfl
@[simp] theorem updateStatus_cfg (k : StreamId) (v : Word) (s : State) : (updateStatus k v s).cfg = s.cfg := rfl
@[simp] theorem updateStatus_result (k : StreamId) (v : Word) (s : State) : (updateStatus k v s).result = s.result := rfl
@[simp] theorem updateStatus_pending (k : StreamId) (v : Word) (s : State) : (updateStatus k v s).pending = s.pending := rfl
@[simp] theorem updateStatus_host (k : StreamId) (v : Word) (s : State) : (updateStatus k v s).host = s.host := rfl
@[simp] theorem updateStatus_draws (k : StreamId) (v : Word) (s : State) : (updateStatus k v s).draws = s.draws := rfl
@[simp] theorem updateStatus_hostLog (k : StreamId) (v : Word) (s : State) : (updateStatus k v s).hostLog = s.hostLog := rfl

@[simp] theorem enable_regs (k : StreamId) (s : State) : (enable k s).regs = s.regs := by
  simp only [enable]; split <;> [rfl; (split <;> rfl)]
@[simp] theorem enable_globCnt (k : StreamId) (s : State) : (enable k s).globCnt = s.globCnt := by
  simp only [enable]; split <;> [rfl; (split <;> rfl)]
@[simp] theorem enable_globSta (k : StreamId) (s : State) : (enable k s).globSta = s.globSta := by
  simp only [enable]; split <;> [rfl; (split <;> rfl)]
@[simp] theorem enable_cas (k : StreamId) (s : State) : (enable k s).cas = s.cas := by
  simp only [enable]; split <;> [rfl; (split <;> rfl)]
@[simp] theorem enable_mix (k : StreamId) (s : State) : (enable k s).mix = s.mix := by
  simp only [enable]; split <;> [rfl; (split <;> rfl)]
@[simp] theorem enable_mem (k : StreamId) (s : State) : (enable k s).mem = s.mem := by
  simp only [enable]; split <;> [rfl; (split <;> rfl)]
@[simp] theorem enable_racing (k : StreamId) (s : State) : (enable k s).racing = s.racing := by
  simp only [enable]; split <;> [rfl; (split <;> rfl)]
@[simp] theorem enable_vnow (k : StreamId) (s : State) : (enable k s).vnow = s.vnow := by
  simp only [enable]; split <;> [rfl; (split <;> rfl)]
@[simp] theorem enable_cfg (k : StreamId) (s : State) : (enable k s).cfg = s.cfg := by
  simp only [enable]; split <;> [rfl; (split <;> rfl)]
@[simp] theorem enable_result (k : StreamId) (s : State) : (enable k s).result = s.result := by
  simp only [enable]; split <;> [rfl; (split <;> rfl)]
@[simp] theorem enable_pending (k : StreamId) (s : State) : (enable k s).pending = s.pending := by
  simp only [enable]; split <;> [rfl; (split <;> rfl)]
@[simp] theorem enable_host (k : StreamId) (s : State) : (enable k s).host = s.host := by
  simp only [enable]; split <;> [rfl; (split <;> rfl)]
@[simp] theorem enable_draws (k : StreamId) (s : State) : (enable k s).draws = s.draws := by
  simp only [enable]; split <;> [rfl; (split <;> rfl)]

@[simp] theorem disable_regs (k : StreamId) (s : State) : (disable k s).regs = s.regs := rfl
@[simp] theorem disable_globCnt (k : StreamId) (s : State) : (disable k s).globCnt = s.globCnt := rfl
@[simp] theorem disable_globSta (k : StreamId) (s : State) : (disable k s).globSta = s.globSta := rfl
@[simp] theorem disable_cas (k : StreamId) (s : State) : (disable k s).cas = s.cas := rfl
@[simp] theorem disable_mix (k : StreamId) (s : State) : (disable k s).mix = s.mix := rfl
@[simp] theorem disable_mem (k : StreamId) (s : State) : (disable k s).mem = s.mem := rfl
@[simp] theorem disable_racing (k : StreamId) (s : State) : (disable k s).racing = s.racing := rfl
@[simp] theorem disable_vnow (k : StreamId) (s : State) : (disable k s).vnow = s.vnow := rfl
@[simp] theorem disable_cfg (k : StreamId) (s : State) : (disable k s).cfg = s.cfg := rfl
@[simp] theorem disable_result (k : StreamId) (s : State) : (disable k s).result = s.result := rfl
@[simp] theorem disable_pending (k : StreamId) (s : State) : (disable k s).pending = s.pending := rfl
@[simp] theorem disable_host (k : StreamId) (s : State) : (disable k s).host = s.host := rfl
@[simp] theorem disable_draws (k : StreamId) (s : State) : (disable k s).draws = s.draws := rfl

@[simp] theorem reopen_regs (k : StreamId) (s : State) : (reopen k s).regs = s.regs := by
  simp only [reopen]; split <;> [(split <;> rfl); rfl]
@[simp] theorem reopen_globCnt (k : StreamId) (s : State) : (reopen k s).globCnt = s.globCnt := by
  simp only [reopen]; split <;> [(split <;> rfl); rfl]
@[simp] theorem reopen_globSta (k : StreamId) (s : State) : (reopen k s).globSta = s.globSta := by
  simp only [reopen]; split <;> [(split <;> rfl); rfl]
@[simp] theorem reopen_cas (k : StreamId) (s : State) : (reopen k s).cas = s.cas := by
  simp only [reopen]; split <;> [(split <;> rfl); rfl]
@[simp] theorem reopen_mix (k : StreamId) (s : State) : (reopen k s).mix = s.mix := by
  simp only [reopen]; split <;> [(split <;> rfl); rfl]
@[simp] theorem reopen_mem (k : StreamId) (s : State) : (reopen k s).mem = s.mem := by
  simp only [reopen]; split <;> [(split <;> rfl); rfl]
@[simp] theorem reopen_racing (k : StreamId) (s : State) : (reopen k s).racing = s.racing := by
  simp only [reopen]; split <;> [(split <;> rfl); rfl]
@[simp] theorem reopen_vnow (k : StreamId) (s : State) : (reopen k s).vnow = s.vnow := by
  simp only [reopen]; split <;> [(split <;> rfl); rfl]
@[simp] theorem reopen_cfg (k : StreamId) (s : State) : (reopen k s).cfg = s.cfg := by
  simp only [reopen]; split <;> [(split <;> rfl); rfl]
@[simp] theorem reopen_result (k : StreamId) (s : State) : (reopen k s).result = s.result := by
  simp only [reopen]; split <;> [(split <;> rfl); rfl]
@[simp] theorem reopen_pending (k : StreamId) (s : State) : (reopen k s).pending = s.pending := by
  simp only [reopen]; split <;> [(split <;> rfl); rfl]
@[simp] theorem reopen_host (k : StreamId) (s : State) : (reopen k s).host = s.host := by
  simp only [reopen]; split <;> [(split <;> rfl); rfl]
@[simp] theorem reopen_draws (k : StreamId) (s : State) : (reopen k s).draws = s.draws := by
  simp only [reopen]; split <;> [(split <;> rfl); rfl]

@[simp] theorem streamReset_globCnt (k : StreamId) (s : State) : (streamReset k s).globCnt = s.globCnt := rfl
@[simp] theorem streamReset_cas (k : StreamId) (s : State) : (streamReset k s).cas = s.cas := rfl
@[simp] theorem streamReset_mix (k : StreamId) (s : State) : (streamReset k s).mix = s.mix := rfl
@[simp] theorem streamReset_mem (k : StreamId) (s : State) : (streamReset k s).mem = s.mem := rfl
@[simp] theorem streamReset_racing (k : StreamId) (s : State) : (streamReset k s).racing = s.racing := rfl
@[simp] theorem streamReset_vnow (k : StreamId) (s : State) : (streamReset k s).vnow = s.vnow := rfl
@[simp] theorem streamReset_cfg (k : StreamId) (s : State) : (streamReset k s).cfg = s.cfg := rfl
@[simp] theorem streamReset_result (k : StreamId) (s : State) : (streamReset k s).result = s.result := rfl
@[simp] theorem streamReset_pending (k : StreamId) (s : State) : (streamReset k s).pending = s.pending := rfl
@[simp] theorem streamReset_host (k : StreamId) (s : State) : (streamReset k s).host = s.host := rfl
@[simp] theorem streamReset_draws (k : StreamId) (s : State) : (streamReset k s).draws = s.draws := rfl

@[simp] theorem sendVolume_regs (c : VolumeControl) (off : Nat) (s : State) : (sendVolume c off s).regs = s.regs := rfl
@[simp] theorem sendVolume_rt (c : VolumeControl) (off : Nat) (s : State) : (sendVolume c off s).rt = s.rt := rfl
@[simp] theorem sendVolume_globCnt (c : VolumeControl) (off : Nat) (s : State) : (sendVolume c off s).globCnt = s.globCnt := rfl
@[simp] theorem sendVolume_globSta (c : VolumeControl) (off : Nat) (s : State) : (sendVolume c off s).globSta = s.globSta := rfl
@[simp] theorem sendVolume_cas (c : VolumeControl) (off : Nat) (s : State) : (sendVolume c off s).cas = s.cas := rfl
@[simp] theorem sendVolume_mix (c : VolumeControl) (off : Nat) (s : State) : (sendVolume c off s).mix = s.mix := rfl
@[simp] theorem sendVolume_mem (c : VolumeControl) (off : Nat) (s : State) : (sendVolume c off s).mem = s.mem := rfl
@[simp] theorem sendVolume_racing (c : VolumeControl) (off : Nat) (s : State) : (sendVolume c off s).racing = s.racing := rfl
@[simp] theorem sendVolume_vnow (c : VolumeControl) (off : Nat) (s : State) : (sendVolume c off s).vnow = s.vnow := rfl
@[simp] theorem sendVolume_cfg (c : VolumeControl) (off : Nat) (s : State) : (sendVolume c off s).cfg = s.cfg := rfl
@[simp] theorem sendVolume_result (c : VolumeControl) (off : Nat) (s : State) : (sendVolume c off s).result = s.result := rfl
@[simp] theorem sendVolume_pending (c : VolumeControl) (off : Nat) (s : State) : (sendVolume c off s).pending = s.pending := rfl
@[simp] theorem sendVolume_host (c : VolumeControl) (off : Nat) (s : State) : (sendVolume c off s).host = s.host := rfl
@[simp] theorem sendVolume_draws (c : VolumeControl) (off : Nat) (s : State) : (sendVolume c off s).draws = s.draws := rfl

@[simp] theorem sendGain_regs (c : VolumeControl) (off : Nat) (s : State) : (sendGain c off s).regs = s.regs := rfl
@[simp] theorem sendGain_rt (c : VolumeControl) (off : Nat) (s : State) : (sendGain c off s).rt = s.rt := rfl
@[simp] theorem sendGain_globCnt (c : VolumeControl) (off : Nat) (s : State) : (sendGain c off s).globCnt = s.globCnt := rfl
@[simp] theorem sendGain_globSta (c : VolumeControl) (off : Nat) (s : State) : (sendGain c off s).globSta = s.globSta := rfl
@[simp] theorem sendGain_cas (c : VolumeControl) (off : Nat) (s : State) : (sendGain c off s).cas = s.cas := rfl
@[simp] theorem sendGain_mix (c : VolumeControl) (off : Nat) (s : State) : (sendGain c off s).mix = s.mix := rfl
@[simp] theorem sendGain_mem (c : VolumeControl) (off : Nat) (s : State) : (sendGain c off s).mem = s.mem := rfl
@[simp] theorem sendGain_racing (c : VolumeControl) (off : Nat) (s : State) : (sendGain c off s).racing = s.racing := rfl
@[simp] theorem sendGain_vnow (c : VolumeControl) (off : Nat) (s : State) : (sendGain c off s).vnow = s.vnow := rfl
@[simp] theorem sendGain_cfg (c : VolumeControl) (off : Nat) (s : State) : (sendGain c off s).cfg = s.cfg := rfl
@[simp] theorem sendGain_result (c : VolumeControl) (off : Nat) (s : State) : (sendGain c off s).result = s.result := rfl
@[simp] theorem sendGain_pending (c : VolumeControl) (off : Nat) (s : State) : (sendGain c off s).pending = s.pending := rfl
@[simp] theorem sendGain_host (c : VolumeControl) (off : Nat) (s : State) : (sendGain c off s).host = s.host := rfl
@[simp] theorem sendGain_draws (c : VolumeControl) (off : Nat) (s : State) : (sendGain c off s).draws = s.draws := rfl

@[simp] theorem sendVolumes_regs (s : State) : (sendVolumes s).regs = s.regs := by
  simp [sendVolumes]
@[simp] theorem sendVolumes_rt (s : State) : (sendVolumes s).rt = s.rt := by
  simp [sendVolumes]
@[simp] theorem sendVolumes_globCnt (s : State) : (sendVolumes s).globCnt = s.globCnt := by
  simp [sendVolumes]
@[simp] theorem sendVolumes_globSta (s : State) : (sendVolumes s).globSta = s.globSta := by
  simp [sendVolumes]
@[simp] theorem sendVolumes_cas (s : State) : (sendVolumes s).cas = s.cas := by
  simp [sendVolumes]
@[simp] theorem sendVolumes_mix (s : State) : (sendVolumes s).mix = s.mix := by
  simp [sendVolumes]
@[simp] theorem sendVolumes_mem (s : State) : (sendVolumes s).mem = s.mem := by
  simp [sendVolumes]
@[simp] theorem sendVolumes_racing (s : State) : (sendVolumes s).racing = s.racing := by
  simp [sendVolumes]
@[simp] theorem sendVolumes_vnow (s : State) : (sendVolumes s).vnow = s.vnow := by
  simp [sendVolumes]
@[simp] theorem sendVolumes_cfg (s : State) : (sendVolumes s).cfg = s.cfg := by
  simp [sendVolumes]
@[simp] theorem sendVolumes_result (s : State) : (sendVolumes s).result = s.result := by
  simp [sendVolumes]
@[simp] theorem sendVolumes_pending (s : State) : (sendVolumes s).pending = s.pending := by
  simp [sendVolumes]
@[simp] theorem sendVolumes_host (s : State) : (sendVolumes s).host = s.host := by
  simp [sendVolumes]
@[simp] theorem sendVolumes_draws (s : State) : (sendVolumes s).draws = s.draws := by
  simp [sendVolumes]

@[simp] theorem selectRecordSource_regs (d : Word) (s : State) : (selectRecordSource d s).regs = s.regs := rfl
@[simp] theorem selectRecordSource_rt (d : Word) (s : State) : (selectRecordSource d s).rt = s.rt := rfl
@[simp] theorem selectRecordSource_globCnt (d : Word) (s : State) : (selectRecordSource d s).globCnt = s.globCnt := rfl
@[simp] theorem selectRecordSource_globSta (d : Word) (s : State) : (selectRecordSource d s).globSta = s.globSta := rfl
@[simp] theorem selectRecordSource_cas (d : Word) (s : State) : (selectRecordSource d s).cas = s.cas := rfl
@[simp] theorem selectRecordSource_mem (d : Word) (s : State) : (selectRecordSource d s).mem = s.mem := rfl
@[simp] theorem selectRecordSource_racing (d : Word) (s : State) : (selectRecordSource d s).racing = s.racing := rfl
@[simp] theorem selectRecordSource_vnow (d : Word) (s : State) : (selectRecordSource d s).vnow = s.vnow := rfl
@[simp] theorem selectRecordSource_cfg (d : Word) (s : State) : (selectRecordSource d s).cfg = s.cfg := rfl
@[simp] theorem selectRecordSource_result (d : Word) (s : State) : (selectRecordSource d s).result = s.result := rfl
@[simp] theorem selectRecordSource_pending (d : Word) (s : State) : (selectRecordSource d s).pending = s.pending := rfl
@[simp] theorem selectRecordSource_host (d : Word) (s : State) : (selectRecordSource d s).host = s.host := rfl
@[simp] theorem selectRecordSource_draws (d : Word) (s : State) : (selectRecordSource d s).draws = s.draws := rfl

@[simp] theorem deviceReset_mem (s : State) : (deviceReset s).mem = s.mem := by
  simp [deviceReset]
@[simp] theorem deviceReset_racing (s : State) : (deviceReset s).racing = s.racing := by
  simp [deviceReset]
@[simp] theorem deviceReset_vnow (s : State) : (deviceReset s).vnow = s.vnow := by
  simp [deviceReset]
@[simp] theorem deviceReset_cfg (s : State) : (deviceReset s).cfg = s.cfg := by
  simp [deviceReset]
@[simp] theorem deviceReset_result (s : State) : (deviceReset s).result = s.result := by
  simp [deviceReset]
@[simp] theorem deviceReset_pending (s : State) : (deviceReset s).pending = s.pending := by
  simp [deviceReset]
@[simp] theorem deviceReset_host (s : State) : (deviceReset s).host = s.host := by
  simp [deviceReset]
@[simp] theorem deviceReset_draws (s : State) : (deviceReset s).draws = s.draws := by
  simp [deviceReset]

@[simp] theorem defaultStreamRate_regs (k : StreamId) (s : State) : (defaultStreamRate k s).regs = s.regs := by
  simp [defaultStreamRate]
@[simp] theorem defaultStreamRate_globCnt (k : StreamId) (s : State) : (defaultStreamRate k s).globCnt = s.globCnt := by
  simp [defaultStreamRate]
@[simp] theorem defaultStreamRate_globSta (k : StreamId) (s : State) : (defaultStreamRate k s).globSta = s.globSta := by
  simp [defaultStreamRate]
@[simp] theorem defaultStreamRate_cas (k : StreamId) (s : State) : (defaultStreamRate k s).cas = s.cas := by
  simp [defaultStreamRate]
@[simp] theorem defaultStreamRate_mem (k : StreamId) (s : State) : (defaultStreamRate k s).mem = s.mem := by
  simp [defaultStreamRate]
@[simp] theorem defaultStreamRate_racing (k : StreamId) (s : State) : (defaultStreamRate k s).racing = s.racing := by
  simp [defaultStreamRate]
@[simp] theorem defaultStreamRate_vnow (k : StreamId) (s : State) : (defaultStreamRate k s).vnow = s.vnow := by
  simp [defaultStreamRate]
@[simp] theorem defaultStreamRate_cfg (k : StreamId) (s : State) : (defaultStreamRate k s).cfg = s.cfg := by
  simp [defaultStreamRate]
@[simp] theorem defaultStreamRate_result (k : StreamId) (s : State) : (defaultStreamRate k s).result = s.result := by
  simp [defaultStreamRate]
@[simp] theorem defaultStreamRate_pending (k : StreamId) (s : State) : (defaultStreamRate k s).pending = s.pending := by
  simp [defaultStreamRate]
@[simp] theorem defaultStreamRate_host (k : StreamId) (s : State) : (defaultStreamRate k s).host = s.host := by
  simp [defaultStreamRate]
@[simp] theorem defaultStreamRate_draws (k : StreamId) (s : State) : (defaultStreamRate k s).draws = s.draws := by
  simp [defaultStreamRate]

@[simp] theorem hostSide_regs (k : StreamId) (s : State) : (hostSide k s).regs = s.regs := by
  simp only [hostSide]; split <;> rfl
@[simp] theorem hostSide_globCnt (k : StreamId) (s : State) : (hostSide k s).globCnt = s.globCnt := by
  simp only [hostSide]; split <;> rfl
@[simp] theorem hostSide_globSta (k : StreamId) (s : State) : (hostSide k s).globSta = s.globSta := by
  simp only [hostSide]; split <;> rfl
@[simp] theorem hostSide_cas (k : StreamId) (s : State) : (hostSide k s).cas = s.cas := by
  simp only [hostSide]; split <;> rfl
@[simp] theorem hostSide_mix (k : StreamId) (s : State) : (hostSide k s).mix = s.mix := by
  simp only [hostSide]; split <;> rfl
@[simp] theorem hostSide_mem (k : StreamId) (s : State) : (hostSide k s).mem = s.mem := by
  simp only [hostSide]; split <;> rfl
@[simp] theorem hostSide_racing (k : StreamId) (s : State) : (hostSide k s).racing = s.racing := by
  simp only [hostSide]; split <;> rfl
@[simp] theorem hostSide_vnow (k : StreamId) (s : State) : (hostSide k s).vnow = s.vnow := by
  simp only [hostSide]; split <;> rfl
@[simp] theorem hostSide_cfg (k : StreamId) (s : State) : (hostSide k s).cfg = s.cfg := by
  simp only [hostSide]; split <;> rfl
@[simp] theorem hostSide_result (k : StreamId) (s : State) : (hostSide k s).result = s.result := by
  simp only [hostSide]; split <;> rfl
@[simp] theorem hostSide_pending (k : StreamId) (s : State) : (hostSide k s).pending = s.pending := by
  simp only [hostSide]; split <;> rfl
@[simp] theorem hostSide_host (k : StreamId) (s : State) : (hostSide k s).host = s.host := by
  simp only [hostSide]; split <;> rfl
@[simp] theorem hostSide_draws (k : StreamId) (s : State) : (hostSide k s).draws = s.draws := by
  simp only [hostSide]; split <;> rfl

@[simp] theorem tickHostSide_regs (k : StreamId) (s : State) : (tickHostSide k s).regs = s.regs := by
  simp only [tickHostSide]; split <;> simp
@[simp] theorem tickHostSide_globCnt (k : StreamId) (s : State) : (tickHostSide k s).globCnt = s.globCnt := by
  simp only [tickHostSide]; split <;> simp
@[simp] theorem tickHostSide_globSta (k : StreamId) (s : State) : (tickHostSide k s).globSta = s.globSta := by
  simp only [tickHostSide]; split <;> simp
@[simp] theorem tickHostSide_cas (k : StreamId) (s : State) : (tickHostSide k s).cas = s.cas := by
  simp only [tickHostSide]; split <;> simp
@[simp] theorem tickHostSide_mix (k : StreamId) (s : State) : (tickHostSide k s).mix = s.mix := by
  simp only [tickHostSide]; split <;> simp
@[simp] theorem tickHostSide_mem (k : StreamId) (s : State) : (tickHostSide k s).mem = s.mem := by
  simp only [tickHostSide]; split <;> simp
@[simp] theorem tickHostSide_racing (k : StreamId) (s : State) : (tickHostSide k s).racing = s.racing := by
  simp only [tickHostSide]; split <;> simp
@[simp] theorem tickHostSide_vnow (k : StreamId) (s : State) : (tickHostSide k s).vnow = s.vnow := by
  simp only [tickHostSide]; split <;> simp
@[simp] theorem tickHostSide_cfg (k : StreamId) (s : State) : (tickHostSide k s).cfg = s.cfg := by
  simp only [tickHostSide]; split <;> simp
@[simp] theorem tickHostSide_result (k : StreamId) (s : State) : (tickHostSide k s).result = s.result := by
  simp only [tickHostSide]; split <;> simp
@[simp] theorem tickHostSide_pending (k : StreamId) (s : State) : (tickHostSide k s).pending = s.pending := by
  simp only [tickHostSide]; split <;> simp
@[simp] theorem tickHostSide_host (k : StreamId) (s : State) : (tickHostSide k s).host = s.host := by
  simp only [tickHostSide]; split <;> simp
@[simp] theorem tickHostSide_draws (k : StreamId) (s : State) : (tickHostSide k s).draws = s.draws := by
  simp only [tickHostSide]; split <;> simp

@[simp] theorem rearm_regs (k : StreamId) (s : State) : (rearm k s).regs = s.regs := rfl
@[simp] theorem rearm_globCnt (k : StreamId) (s : State) : (rearm k s).globCnt = s.globCnt := rfl
@[simp] theorem rearm_globSta (k : StreamId) (s : State) : (rearm k s).globSta = s.globSta := rfl
@[simp] theorem rearm_cas (k : StreamId) (s : State) : (rearm k s).cas = s.cas := rfl
@[simp] theorem rearm_mix (k : StreamId) (s : State) : (rearm k s).mix = s.mix := rfl
@[simp] theorem rearm_mem (k : StreamId) (s : State) : (rearm k s).mem = s.mem := rfl
@[simp] theorem rearm_racing (k : StreamId) (s : State) : (rearm k s).racing = s.racing := rfl
@[simp] theorem rearm_vnow (k : StreamId) (s : State) : (rearm k s).vnow = s.vnow := rfl
@[simp] theorem rearm_cfg (k : StreamId) (s : State) : (rearm k s).cfg = s.cfg := rfl
@[simp] theorem rearm_result (k : StreamId) (s : State) : (rearm k s).result = s.result := rfl
@[simp] theorem rearm_pending (k : StreamId) (s : State) : (rearm k s).pending = s.pending := rfl
@[simp] theorem rearm_host (k : StreamId) (s : State) : (rearm k s).host = s.host := rfl
@[simp] theorem rearm_draws (k : StreamId) (s : State) : (rearm k s).draws = s.draws := rfl
@[simp] theorem rearm_hostLog (k : StreamId) (s : State) : (rearm k s).hostLog = s.hostLog := rfl

@[simp] theorem workerStep_regs (k : StreamId) (s : State) : (workerStep k s).regs = s.regs := by
  simp only [workerStep]; repeat' split
  all_goals simp
@[simp] theorem workerStep_globCnt (k : StreamId) (s : State) : (workerStep k s).globCnt = s.globCnt := by
  simp only [workerStep]; repeat' split
  all_goals simp
@[simp] theorem workerStep_globSta (k : StreamId) (s : State) : (workerStep k s).globSta = s.globSta := by
  simp only [workerStep]; repeat' split
  all_goals simp
@[simp] theorem workerStep_cas (k : StreamId) (s : State) : (workerStep k s).cas = s.cas := by
  simp only [workerStep]; repeat' split
  all_goals simp
@[simp] theorem workerStep_mix (k : StreamId) (s : State) : (workerStep k s).mix = s.mix := by
  simp only [workerStep]; repeat' split
  all_goals simp
@[simp] theorem workerStep_mem (k : StreamId) (s : State) : (workerStep k s).mem = s.mem := by
  simp only [workerStep]; repeat' split
  all_goals simp
@[simp] theorem workerStep_racing (k : StreamId) (s : State) : (workerStep k s).racing = s.racing := by
  simp only [workerStep]; repeat' split
  all_goals simp
@[simp] theorem workerStep_vnow (k : StreamId) (s : State) : (workerStep k s).vnow = s.vnow := by
  simp only [workerStep]; repeat' split
  all_goals simp
@[simp] theorem workerStep_cfg (k : StreamId) (s : State) : (workerStep k s).cfg = s.cfg := by
  simp only [workerStep]; repeat' split
  all_goals simp
@[simp] theorem workerStep_result (k : StreamId) (s : State) : (workerStep k s).result = s.result := by
  simp only [workerStep]; repeat' split
  all_goals simp
@[simp] theorem workerStep_pending (k : StreamId) (s : State) : (workerStep k s).pending = s.pending := by
  simp only [workerStep]; repeat' split
  all_goals simp
@[simp] theorem workerStep_host (k : StreamId) (s : State) : (workerStep k s).host = s.host := by
  simp only [workerStep]; repeat' split
  all_goals simp
@[simp] theorem workerStep_draws (k : StreamId) (s : State) : (workerStep k s).draws = s.draws := by
  simp only [workerStep]; repeat' split
  all_goals simp

@[simp] theorem reapplyHost_regs (s : State) : (reapplyHost s).regs = s.regs := by
  simp [reapplyHost]
@[simp] theorem reapplyHost_rt (s : State) : (reapplyHost s).rt = s.rt := by
  simp [reapplyHost]
@[simp] theorem reapplyHost_globCnt (s : State) : (reapplyHost s).globCnt = s.globCnt := by
  simp [reapplyHost]
@[simp] theorem reapplyHost_globSta (s : State) : (reapplyHost s).globSta = s.globSta := by
  simp [reapplyHost]
@[simp] theorem reapplyHost_cas (s : State) : (reapplyHost s).cas = s.cas := by
  simp [reapplyHost]
@[simp] theorem reapplyHost_mix (s : State) : (reapplyHost s).mix = s.mix := by
  simp [reapplyHost]
@[simp] theorem reapplyHost_mem (s : State) : (reapplyHost s).mem = s.mem := by
  simp [reapplyHost]
@[simp] theorem reapplyHost_racing (s : State) : (reapplyHost s).racing = s.racing := by
  simp [reapplyHost]
@[simp] theorem reapplyHost_vnow (s : State) : (reapplyHost s).vnow = s.vnow := by
  simp [reapplyHost]
@[simp] theorem reapplyHost_cfg (s : State) : (reapplyHost s).cfg = s.cfg := by
  simp [reapplyHost]
@[simp] theorem reapplyHost_result (s : State) : (reapplyHost s).result = s.result := by
  simp [reapplyHost]
@[simp] theorem reapplyHost_pending (s : State) : (reapplyHost s).pending = s.pending := by
  simp [reapplyHost]
@[simp] theorem reapplyHost_host (s : State) : (reapplyHost s).host = s.host := by
  simp [reapplyHost]
@[simp] theorem reapplyHost_draws (s : State) : (reapplyHost s).draws = s.draws := by
  simp [reapplyHost]

@[simp] theorem loadStream_regs (r : SaveRecord) (k : StreamId) (s : State) : (loadStream r k s).regs = s.regs := by
  simp only [loadStream]; split <;> simp
@[simp] theorem loadStream_globCnt (r : SaveRecord) (k : StreamId) (s : State) : (loadStream r k s).globCnt = s.globCnt := by
  simp only [loadStream]; split <;> simp
@[simp] theorem loadStream_globSta (r : SaveRecord) (k : StreamId) (s : State) : (loadStream r k s).globSta = s.globSta := by
  simp only [loadStream]; split <;> simp
@[simp] theorem loadStream_cas (r : SaveRecord) (k : StreamId) (s : State) : (loadStream r k s).cas = s.cas := by
  simp only [loadStream]; split <;> simp
@[simp] theorem loadStream_mix (r : SaveRecord) (k : StreamId) (s : State) : (loadStream r k s).mix = s.mix := by
  simp only [loadStream]; split <;> simp
@[simp] theorem loadStream_mem (r : SaveRecord) (k : StreamId) (s : State) : (loadStream r k s).mem = s.mem := by
  simp only [loadStream]; split <;> simp
@[simp] theorem loadStream_racing (r : SaveRecord) (k : StreamId) (s : State) : (loadStream r k s).racing = s.racing := by
  simp only [loadStream]; split <;> simp
@[simp] theorem loadStream_vnow (r : SaveRecord) (k : StreamId) (s : State) : (loadStream r k s).vnow = s.vnow := by
  simp only [loadStream]; split <;> simp
@[simp] theorem loadStream_cfg (r : SaveRecord) (k : StreamId) (s : State) : (loadStream r k s).cfg = s.cfg := by
  simp only [loadStream]; split <;> simp
@[simp] theorem loadStream_result (r : SaveRecord) (k : StreamId) (s : State) : (loadStream r k s).result = s.result := by
  simp only [loadStream]; split <;> simp
@[simp] theorem loadStream_pending (r : SaveRecord) (k : StreamId) (s : State) : (loadStream r k s).pending = s.pending := by
  simp only [loadStream]; split <;> simp
@[simp] theorem loadStream_host (r : SaveRecord) (k : StreamId) (s : State) : (loadStream r k s).host = s.host := by
  simp only [loadStream]; split <;> simp
@[simp] theorem loadStream_draws (r : SaveRecord) (k : StreamId) (s : State) : (loadStream r k s).draws = s.draws := by
  simp only [loadStream]; split <;> simp

/-! What the operations do -/

/-- `FetchBDLE` on its own stream's registers (R140). -/
@[simp] theorem fetchBdle_regs (k : StreamId) (s : State) :
    (fetchBdle k s).regs = s.regs.set k
      { s.regs.get k with
        bdAddr := bdAddrOf (dwordOfBytes (s.memRead (entryAddr (s.regs.get k)) 8))
        bdCtl := dwordOfBytes ((s.memRead (entryAddr (s.regs.get k)) 8).drop 4)
        picb := bdLength (dwordOfBytes ((s.memRead (entryAddr (s.regs.get k)) 8).drop 4))
        bdValid := true } := rfl

@[simp] theorem fetchBdle_draws (k : StreamId) (s : State) : (fetchBdle k s).draws = s.draws + 1 := rfl

@[simp] theorem advance_draws (k : StreamId) (s : State) : (advance k s).draws = s.draws + 1 := rfl

/-- `Advance` (R141): the entry fetched is the one at the old PIV, whatever the bytes there. -/
theorem advance_regs (k : StreamId) (s : State) :
    (advance k s).regs = s.regs.set k
      { s.regs.get k with
        civ := (s.regs.get k).piv
        piv := (s.regs.get k).piv + 1
        bdAddr := (bdAddrOf (dwordOfBytes
          (s.memRead ((s.regs.get k).bdbar + 8 * (s.regs.get k).piv.setWidth 32) 8)))
        bdCtl := dwordOfBytes
          ((s.memRead ((s.regs.get k).bdbar + 8 * (s.regs.get k).piv.setWidth 32) 8).drop 4)
        picb := bdLength (dwordOfBytes
          ((s.memRead ((s.regs.get k).bdbar + 8 * (s.regs.get k).piv.setWidth 32) 8).drop 4))
        bdValid := true } := by
  simp only [advance, fetchBdle_regs, State.modRegs_regs, Tri.get_set_self, Tri.set_set, entryAddr]
  rfl

@[simp] theorem updateStatus_regs (k : StreamId) (v : Word) (s : State) :
    (updateStatus k v s).regs = s.regs.set k { s.regs.get k with sr := v } := rfl

@[simp] theorem updateStatus_globSta (k : StreamId) (v : Word) (s : State) :
    (updateStatus k v s).globSta = contribution k (s.regs.get k).sr v (s.regs.get k).cr s.globSta := rfl

@[simp] theorem disable_rt (k : StreamId) (s : State) :
    (disable k s).rt = s.rt.set k (closeRuntime s.cfg (s.rt.get k)) := rfl

/-- Disabling ends a stream's timer and empties its ring (R187). -/
theorem closeRuntime_spec (p : Platform) (rt : StreamRuntime) :
    (closeRuntime p rt).enabled = false ∧ (closeRuntime p rt).armed = false ∧ (closeRuntime p rt).ring = [] ∧
      (closeRuntime p rt).ringCap = rt.ringCap := by
  unfold closeRuntime; split <;> simp [workerDisable]

/-- Enabling touches the runtime state of its own stream only (R185): it does nothing to an open stream, keeps the
new configuration where the open fails, and opens the stream where it succeeds. -/
theorem enable_rt (k : StreamId) (s : State) :
    (enable k s).rt = s.rt.set k
      (if (s.rt.get k).enabled then s.rt.get k
       else if (s.host.get k).openOk then
         openRuntime s.cfg k s.vnow { s.rt.get k with config := streamConfigOf s.mix k }
       else { s.rt.get k with config := streamConfigOf s.mix k }) := by
  simp only [enable]
  split
  · simp
  · split <;> simp

/-- Reopening touches the runtime state of its own stream only (R190). -/
theorem reopen_rt (k : StreamId) (s : State) :
    (reopen k s).rt = s.rt.set k
      (if (s.rt.get k).enabled then
         (if (s.host.get k).openOk then
            armOnePeriod s.vnow (withPeriods s.cfg
              { s.rt.get k with ring := [], config := streamConfigOf s.mix k })
          else closeRuntime s.cfg { s.rt.get k with ring := [], config := streamConfigOf s.mix k })
       else s.rt.get k) := by
  simp only [reopen]
  split
  · split <;> simp
  · simp

/-- A stream reset on its own stream's registers (R272). -/
@[simp] theorem streamReset_regs (k : StreamId) (s : State) :
    (streamReset k s).regs = s.regs.set k
      { bdbar := 0, civ := 0, lvi := 0, sr := 0x0001, picb := 0, piv := 0,
        cr := crKeepOnReset (s.regs.get k).cr, bdValid := false, bdAddr := 0, bdCtl := 0 } := by
  simp [streamReset]

@[simp] theorem streamReset_rt (k : StreamId) (s : State) :
    (streamReset k s).rt = s.rt.set k (closeRuntime s.cfg (s.rt.get k)) := rfl

theorem streamReset_globSta (k : StreamId) (s : State) :
    (streamReset k s).globSta = contribution k (s.regs.get k).sr 0x0001 (s.regs.get k).cr s.globSta := by
  simp [streamReset]

@[simp] theorem deviceReset_globCnt (s : State) : (deviceReset s).globCnt = 0 := by simp [deviceReset]
@[simp] theorem deviceReset_globSta (s : State) : (deviceReset s).globSta = 0 := by simp [deviceReset]
@[simp] theorem deviceReset_cas (s : State) : (deviceReset s).cas = 0 := by simp [deviceReset]

theorem deviceReset_regs (s : State) (k : StreamId) :
    (deviceReset s).regs.get k =
      { bdbar := 0, civ := 0, lvi := 0, sr := 0x0001, picb := 0, piv := 0,
        cr := crKeepOnReset (s.regs.get k).cr, bdValid := false, bdAddr := 0, bdCtl := 0 } := by
  cases k <;> simp [deviceReset, Tri.get_set]

theorem deviceReset_rt (s : State) (k : StreamId) :
    (deviceReset s).rt.get k = closeRuntime s.cfg (s.rt.get k) := by
  cases k <;> simp [deviceReset, Tri.get_set]

/-- The clock addition never goes back (R188). -/
theorem le_clockAdd (a : BitVec 64) (n : Nat) : a ≤ clockAdd a n := by
  unfold clockAdd
  split
  · rename_i h
    rw [BitVec.le_def, BitVec.toNat_ofNat, Nat.mod_eq_of_lt h]; omega
  · rw [BitVec.le_def, BitVec.toNat_allOnes]; omega

/-- The clock addition is exact where the sum fits in 64 bits. -/
theorem clockAdd_toNat (a : BitVec 64) (n : Nat) (h : a.toNat + n < 2 ^ 64) : (clockAdd a n).toNat = a.toNat + n := by
  simp only [clockAdd, if_pos h, BitVec.toNat_ofNat, Nat.mod_eq_of_lt h]

/-- A register just written reads back, another one is untouched (R195). -/
theorem bankGet_bankSet (b : Bank) (r q : BitVec 7) (v : Word) :
    bankGet (bankSet b r v) q = if r = q then v else bankGet b q := by
  simp only [bankGet, bankSet, Vector.getElem_set, BitVec.toNat_inj]

end Sys2Proof.Machine
end

