-- ==== Sys2Proof/Laws/Memory.lean ====
section
/-!
SUPPORT. The laws of guest memory: a read after a write, the canonical form kept, and what a device write touches.
-/

namespace Sys2Proof.Machine

open Sys2Proof

theorem cellLookup_cellInsert (m : List Host.Cell) (a c : Nat) (b : Byte) :
    cellLookup (cellInsert m a b) c = if c = a then some b else cellLookup m c := by
  induction m with
  | nil => by_cases h : a = c <;> simp [cellInsert, cellLookup, h, @eq_comm _ c a]
  | cons p m ih =>
    obtain ⟨x, v⟩ := p
    simp only [cellInsert]
    split
    · by_cases h : a = c
      · simp [cellLookup, h]
      · simp [cellLookup, h, Ne.symm h]
    · split
      · rename_i h
        subst h
        by_cases h : a = c
        · simp [cellLookup, h]
        · simp [cellLookup, h, Ne.symm h]
      · simp only [cellLookup, ih]
        by_cases hx : x = c
        · have : c ≠ a := by omega
          simp [hx, this]
        · simp [hx]

theorem mem_cellInsert {m : List Host.Cell} {a : Nat} {b : Byte} {p : Host.Cell} (h : p ∈ cellInsert m a b) :
    p = (a, b) ∨ p ∈ m := by
  induction m with
  | nil => simpa [cellInsert] using h
  | cons q m ih =>
    obtain ⟨x, v⟩ := q
    simp only [cellInsert] at h
    split at h
    · simpa using h
    · split at h
      · simp only [List.mem_cons] at h
        exact h.imp id (List.mem_cons_of_mem _)
      · simp only [List.mem_cons] at h
        rcases h with h | h
        · exact Or.inr (by simp [h])
        · exact (ih h).imp id (by simp +contextual)

/-- An insertion keeps the addresses rising. -/
theorem cellInsert_pairwise (m : List Host.Cell) (a : Nat) (b : Byte) (h : m.Pairwise (fun p q => p.1 < q.1)) :
    (cellInsert m a b).Pairwise (fun p q => p.1 < q.1) := by
  induction m with
  | nil => simp [cellInsert]
  | cons q m ih =>
    obtain ⟨x, v⟩ := q
    rw [List.pairwise_cons] at h
    simp only [cellInsert]
    split
    · rename_i hlt
      refine List.pairwise_cons.2 ⟨?_, List.pairwise_cons.2 h⟩
      intro p hp
      rcases List.mem_cons.1 hp with rfl | hp
      · exact hlt
      · exact lt_trans hlt (h.1 p hp)
    · split
      · rename_i heq
        subst heq
        exact List.pairwise_cons.2 h
      · refine List.pairwise_cons.2 ⟨?_, ih h.2⟩
        intro p hp
        rcases mem_cellInsert hp with rfl | hp
        · simp only; omega
        · exact h.1 p hp

/-- An insertion keeps the canonical form. -/
theorem cellInsert_wf (m : List Host.Cell) (a : Nat) (b : Byte) (ha : a < 2 ^ 32) (h : Memory.wf m) :
    Memory.wf (cellInsert m a b) := by
  refine ⟨cellInsert_pairwise m a b h.1, ?_⟩
  intro p hp
  rcases mem_cellInsert hp with rfl | hp
  · exact ha
  · exact h.2 p hp

/-- A byte store changes nothing but memory. -/
theorem writeByte_mem_only (s : State) (a : Nat) (b : Byte) : s.writeByte a b = { s with mem := (s.writeByte a b).mem } := by
  unfold State.writeByte; split <;> rfl

@[simp] theorem writeByte_cfg (s : State) (a : Nat) (b : Byte) : (s.writeByte a b).cfg = s.cfg := by
  rw [writeByte_mem_only]

@[simp] theorem writeByte_isRam (s : State) (a c : Nat) (b : Byte) : (s.writeByte a b).isRam c = s.isRam c := by
  simp [State.isRam]

theorem writeByte_mem (s : State) (a : Nat) (b : Byte) :
    (s.writeByte a b).mem = if s.isRam a then cellInsert s.mem a b else s.mem := by
  unfold State.writeByte; split <;> rfl

/-- A read after a byte store: the byte where the address is backed, and every other address as before (R64). -/
theorem guestByte_writeByte (s : State) (a c : Nat) (b : Byte) :
    (s.writeByte a b).guestByte c = if c = a ∧ s.isRam a = true then some b else s.guestByte c := by
  unfold State.guestByte
  rw [writeByte_isRam]
  by_cases hr : s.isRam a = true
  · have hm : (s.writeByte a b).mem = cellInsert s.mem a b := by simp only [State.writeByte, hr, if_true]
    rw [hm, cellLookup_cellInsert]
    by_cases hc : c = a
    · subst hc; simp [hr]
    · simp [hc]
  · simp [State.writeByte, hr]

/-- A byte store keeps memory good. -/
theorem writeByte_memoryOk (s : State) (a : Nat) (b : Byte) (ha : a < 2 ^ 32) (h : MemoryOk s) :
    MemoryOk (s.writeByte a b) := by
  by_cases hr : s.isRam a = true
  · obtain ⟨h1, h2, h3⟩ := h
    refine ⟨?_, ?_, ?_⟩
    · simpa [State.writeByte, hr] using cellInsert_wf s.mem a b ha h1
    · intro p hp
      rw [writeByte_isRam]
      simp only [State.writeByte, hr, if_true] at hp
      rcases mem_cellInsert hp with rfl | hp
      · exact hr
      · exact h2 p hp
    · rw [writeByte_mem_only]; exact h3
  · simpa [State.writeByte, hr] using h

/-- A device write changes nothing but memory. -/
theorem memWrite_mem_only (bs : List Byte) (a : Addr) (s : State) :
    memWrite bs a s = { s with mem := (memWrite bs a s).mem } := by
  induction bs generalizing a s with
  | nil => rfl
  | cons b bs ih =>
    rw [memWrite, ih, writeByte_mem_only]

/-- What a device write makes of memory depends on memory and the platform only. -/
theorem memWrite_mem_congr (bs : List Byte) (a : Addr) (t u : State) (hm : t.mem = u.mem) (hc : t.cfg = u.cfg) :
    (memWrite bs a t).mem = (memWrite bs a u).mem := by
  induction bs generalizing a t u with
  | nil => exact hm
  | cons b bs ih =>
    refine ih _ _ _ ?_ (by simpa using hc)
    have hr : t.isRam a.toNat = u.isRam a.toNat := by simp only [State.isRam, hc]
    rw [writeByte_mem, writeByte_mem, hm, hr]

/-- A device write keeps memory good. -/
theorem memWrite_memoryOk (bs : List Byte) (a : Addr) (s : State) (h : MemoryOk s) : MemoryOk (memWrite bs a s) := by
  induction bs generalizing a s with
  | nil => exact h
  | cons b bs ih => exact ih _ _ (writeByte_memoryOk s a.toNat b a.isLt h)

@[simp] theorem memWrite_regs (bs : List Byte) (a : Addr) (s : State) : (memWrite bs a s).regs = s.regs := by
  rw [memWrite_mem_only]
@[simp] theorem memWrite_rt (bs : List Byte) (a : Addr) (s : State) : (memWrite bs a s).rt = s.rt := by
  rw [memWrite_mem_only]
@[simp] theorem memWrite_globCnt (bs : List Byte) (a : Addr) (s : State) : (memWrite bs a s).globCnt = s.globCnt := by
  rw [memWrite_mem_only]
@[simp] theorem memWrite_globSta (bs : List Byte) (a : Addr) (s : State) : (memWrite bs a s).globSta = s.globSta := by
  rw [memWrite_mem_only]
@[simp] theorem memWrite_cas (bs : List Byte) (a : Addr) (s : State) : (memWrite bs a s).cas = s.cas := by
  rw [memWrite_mem_only]
@[simp] theorem memWrite_mix (bs : List Byte) (a : Addr) (s : State) : (memWrite bs a s).mix = s.mix := by
  rw [memWrite_mem_only]
@[simp] theorem memWrite_racing (bs : List Byte) (a : Addr) (s : State) : (memWrite bs a s).racing = s.racing := by
  rw [memWrite_mem_only]
@[simp] theorem memWrite_vnow (bs : List Byte) (a : Addr) (s : State) : (memWrite bs a s).vnow = s.vnow := by
  rw [memWrite_mem_only]
@[simp] theorem memWrite_cfg (bs : List Byte) (a : Addr) (s : State) : (memWrite bs a s).cfg = s.cfg := by
  rw [memWrite_mem_only]
@[simp] theorem memWrite_result (bs : List Byte) (a : Addr) (s : State) : (memWrite bs a s).result = s.result := by
  rw [memWrite_mem_only]
@[simp] theorem memWrite_pending (bs : List Byte) (a : Addr) (s : State) : (memWrite bs a s).pending = s.pending := by
  rw [memWrite_mem_only]
@[simp] theorem memWrite_host (bs : List Byte) (a : Addr) (s : State) : (memWrite bs a s).host = s.host := by
  rw [memWrite_mem_only]
@[simp] theorem memWrite_draws (bs : List Byte) (a : Addr) (s : State) : (memWrite bs a s).draws = s.draws := by
  rw [memWrite_mem_only]
@[simp] theorem memWrite_hostLog (bs : List Byte) (a : Addr) (s : State) : (memWrite bs a s).hostLog = s.hostLog := by
  rw [memWrite_mem_only]

/-- A device write leaves every address outside its bytes as it was (R64, wrapping R63). -/
theorem guestByte_memWrite_outside (bs : List Byte) (a : Addr) (s : State) (c : Nat)
    (h : ∀ i < bs.length, (a + BitVec.ofNat 32 i).toNat ≠ c) : (memWrite bs a s).guestByte c = s.guestByte c := by
  induction bs generalizing a s with
  | nil => rfl
  | cons b bs ih =>
    have h0 : a.toNat ≠ c := by simpa using h 0 (by simp)
    rw [memWrite, ih, guestByte_writeByte, if_neg (fun hc => h0 hc.1.symm)]
    intro i hi
    have := h (i + 1) (by simpa using hi)
    rwa [BitVec.add_assoc, show (1 + BitVec.ofNat 32 i : BitVec 32) = BitVec.ofNat 32 (i + 1) by
      apply BitVec.eq_of_toNat_eq; simp [BitVec.toNat_ofNat, Nat.add_comm]]

/-- A device read of one byte where memory holds one and no store races it (R64). -/
theorem readByte_listed (s : State) (i a : Nat) (b : Byte) (hb : s.guestByte a = some b) (hs : s.storesTo a = []) :
    s.readByte i a = b := by
  simp [State.readByte, hb, hs]

/-- A device read where there is no RAM is a draw (R64). -/
theorem readByte_unbacked (s : State) (i a : Nat) (h : s.isRam a = false) :
    s.readByte i a = Config.memDraw s.draws i := by
  simp [State.readByte, State.guestByte, h]

/-- A device read where memory holds nothing yet and no store races it is a draw. -/
theorem readByte_unwritten (s : State) (i a : Nat) (hb : s.guestByte a = none) (hs : s.storesTo a = []) :
    s.readByte i a = Config.memDraw s.draws i := by
  simp [State.readByte, hb, hs]

end Sys2Proof.Machine
end

