-- ==== Sys2Proof/Laws/Transfer.lean ====
section
/-!
SUPPORT. What the transfer engine can do: the size of a move, what a move and a completion change, that the loop's fuel
never runs out, and the induction over a call.
-/

namespace Sys2Proof.Machine

open Sys2Proof

theorem moveSize_le_remaining (k : StreamId) (m : Nat) (s : State) : moveSize k m s ≤ m := by
  unfold moveSize; dsimp only; omega

theorem moveSize_le_picb (k : StreamId) (m : Nat) (s : State) : moveSize k m s ≤ 2 * (s.regs.get k).picb.toNat := by
  unfold moveSize; dsimp only; omega

theorem moveSize_le_room (k : StreamId) (m : Nat) (s : State) : moveSize k m s ≤ moveRoom k (s.rt.get k) := by
  unfold moveSize; dsimp only; omega

theorem moveSize_even (k : StreamId) (m : Nat) (s : State) : moveSize k m s % 2 = 0 := by
  unfold moveSize; dsimp only; omega

/-- With nothing left in the descriptor nothing moves (R154). -/
theorem moveSize_picb_zero (k : StreamId) (m : Nat) (s : State) (h : (s.regs.get k).picb = 0) : moveSize k m s = 0 := by
  have := moveSize_le_picb k m s
  simp [h] at this
  exact this

/-- One move on its own stream's registers (R152). -/
theorem moveChunk_regs (k : StreamId) (n : Nat) (s : State) :
    (moveChunk k n s).regs = s.regs.set k
      { s.regs.get k with
        picb := (s.regs.get k).picb - BitVec.ofNat 16 (n / 2)
        bdAddr := (s.regs.get k).bdAddr + BitVec.ofNat 32 n } := by
  simp only [moveChunk]
  split <;> simp

/-- One move on its own stream's ring (R152): the output appends what it read, an input removes what it wrote. -/
theorem moveChunk_rt (k : StreamId) (n : Nat) (s : State) :
    (moveChunk k n s).rt = s.rt.set k
      (if k.isOut then ringPush (s.memRead (s.regs.get k).bdAddr n) (s.rt.get k) else ringPop n (s.rt.get k)) := by
  simp only [moveChunk]
  split <;> simp

/-- One move on guest memory (R152): the output writes none. -/
theorem moveChunk_mem (k : StreamId) (n : Nat) (s : State) :
    (moveChunk k n s).mem =
      if k.isOut then s.mem
      else (memWrite ((s.rt.get k).ring.take n) (s.regs.get k).bdAddr s).mem := by
  simp only [moveChunk]
  split
  · simp
  · simp only [State.modRegs_mem]
    exact memWrite_mem_congr _ _ _ _ (by simp) (by simp)

@[simp] theorem moveChunk_globCnt (k : StreamId) (n : Nat) (s : State) : (moveChunk k n s).globCnt = s.globCnt := by
  simp only [moveChunk]; split <;> simp
@[simp] theorem moveChunk_globSta (k : StreamId) (n : Nat) (s : State) : (moveChunk k n s).globSta = s.globSta := by
  simp only [moveChunk]; split <;> simp
@[simp] theorem moveChunk_cas (k : StreamId) (n : Nat) (s : State) : (moveChunk k n s).cas = s.cas := by
  simp only [moveChunk]; split <;> simp
@[simp] theorem moveChunk_mix (k : StreamId) (n : Nat) (s : State) : (moveChunk k n s).mix = s.mix := by
  simp only [moveChunk]; split <;> simp
@[simp] theorem moveChunk_racing (k : StreamId) (n : Nat) (s : State) : (moveChunk k n s).racing = s.racing := by
  simp only [moveChunk]; split <;> simp
@[simp] theorem moveChunk_vnow (k : StreamId) (n : Nat) (s : State) : (moveChunk k n s).vnow = s.vnow := by
  simp only [moveChunk]; split <;> simp
@[simp] theorem moveChunk_cfg (k : StreamId) (n : Nat) (s : State) : (moveChunk k n s).cfg = s.cfg := by
  simp only [moveChunk]; split <;> simp
@[simp] theorem moveChunk_result (k : StreamId) (n : Nat) (s : State) : (moveChunk k n s).result = s.result := by
  simp only [moveChunk]; split <;> simp
@[simp] theorem moveChunk_pending (k : StreamId) (n : Nat) (s : State) : (moveChunk k n s).pending = s.pending := by
  simp only [moveChunk]; split <;> simp
@[simp] theorem moveChunk_host (k : StreamId) (n : Nat) (s : State) : (moveChunk k n s).host = s.host := by
  simp only [moveChunk]; split <;> simp
@[simp] theorem moveChunk_hostLog (k : StreamId) (n : Nat) (s : State) : (moveChunk k n s).hostLog = s.hostLog := by
  simp only [moveChunk]; split <;> simp

/-- One move keeps memory good. -/
theorem moveChunk_memoryOk (k : StreamId) (n : Nat) (s : State) (h : MemoryOk s) : MemoryOk (moveChunk k n s) := by
  have hr : ∀ a, (moveChunk k n s).isRam a = s.isRam a := fun a => by simp [State.isRam]
  refine ⟨?_, ?_, by simpa using h.2.2⟩
  · rw [moveChunk_mem]
    split
    · exact h.1
    · exact (memWrite_memoryOk _ _ _ h).1
  · intro p hp
    rw [hr]
    rw [moveChunk_mem] at hp
    split at hp
    · exact h.2.1 p hp
    · have := (memWrite_memoryOk ((s.rt.get k).ring.take n) (s.regs.get k).bdAddr s h).2.1 p hp
      simpa [State.isRam] using this

/-- A completion (R153): an underrun sets the status and stops; otherwise the status is set and the stream advances. -/
theorem complete_cases (k : StreamId) (s : State) :
    ((s.regs.get k).civ = (s.regs.get k).lvi ∧
      complete k s =
        (updateStatus k (srCompleted (s.regs.get k).sr (bdIoc (s.regs.get k).bdCtl) true) s, .eof)) ∨
    ((s.regs.get k).civ ≠ (s.regs.get k).lvi ∧
      complete k s =
        (advance k (updateStatus k (srCompleted (s.regs.get k).sr (bdIoc (s.regs.get k).bdCtl) false) s), .ok)) := by
  by_cases h : (s.regs.get k).civ = (s.regs.get k).lvi
  · left; simp [complete, h]
  · right
    have hb : ((s.regs.get k).civ == (s.regs.get k).lvi) = false := by simpa using h
    refine ⟨h, ?_⟩
    simp only [complete, hb]
    rfl

/-- Fuel of at least the bytes asked for never runs out: more fuel changes nothing. -/
theorem moveLoop_fuel (k : StreamId) (m : Nat) :
    ∀ f s, m ≤ f → moveLoop k f m s = moveLoop k m m s := by
  induction m using Nat.strong_induction_on with
  | _ m ih =>
    intro f s hf
    match m, f, hf with
    | 0, 0, _ => rfl
    | 0, f + 1, _ =>
      have : moveSize k 0 s = 0 := Nat.le_zero.1 (moveSize_le_remaining k 0 s)
      simp [moveLoop, this]
    | m + 1, f + 1, hf =>
      by_cases h0 : moveSize k (m + 1) s = 0
      · simp [moveLoop, h0]
      · have hlt : m + 1 - moveSize k (m + 1) s < m + 1 := by omega
        have key : ∀ t, moveLoop k f (m + 1 - moveSize k (m + 1) s) t =
            moveLoop k m (m + 1 - moveSize k (m + 1) s) t := by
          intro t
          rw [ih _ hlt f t (by omega), ih _ hlt m t (by omega)]
        simp only [moveLoop, if_neg h0, key]

/-- What every part of the loop keeps, the loop keeps. -/
theorem moveLoop_keeps (k : StreamId) (P : State → Prop)
    (move : ∀ s m, P s → moveSize k m s ≠ 0 → P (moveChunk k (moveSize k m s) s))
    (completion : ∀ s, P s → (s.regs.get k).picb = 0 → P (complete k s).1) :
    ∀ f m s, P s → P (moveLoop k f m s).1 := by
  intro f
  induction f with
  | zero => intro m s h; exact h
  | succ f ih =>
    intro m s h
    simp only [moveLoop]
    split
    · exact h
    · rename_i h0
      have h1 := move s m h h0
      split
      · rename_i hp
        have h2 := completion _ h1 hp
        split
        · rename_i heq; rw [heq] at h2; exact h2
        · rename_i heq; rw [heq] at h2; exact ih _ _ h2
      · exact ih _ _ h1

/-- What every part of a call keeps, the call keeps. The cache is fetched only on a running stream without one. -/
theorem transfer_keeps (k : StreamId) (P : State → Prop)
    (fetch : ∀ s, P s → isHalted (s.regs.get k).sr = false → (s.regs.get k).bdValid = false → P (fetchBdle k s))
    (move : ∀ s m, P s → moveSize k m s ≠ 0 → P (moveChunk k (moveSize k m s) s))
    (completion : ∀ s, P s → (s.regs.get k).picb = 0 → P (complete k s).1)
    (m : Nat) (s : State) (h : P s) : P (transfer k m s).1 := by
  simp only [transfer]
  split
  · exact h
  · rename_i hh
    split
    · exact h
    · refine moveLoop_keeps k P move completion _ _ _ ?_
      split
      · exact h
      · rename_i hv
        exact fetch s h (by simpa using hh) (by simpa using hv)

/-- A call leaves the global registers but GLOB_STA, the codec, the clock, the platform and the host alone. -/
theorem transfer_unchanged (k : StreamId) (m : Nat) (s : State) :
    let t := (transfer k m s).1
    t.globCnt = s.globCnt ∧ t.cas = s.cas ∧ t.mix = s.mix ∧ t.racing = s.racing ∧ t.vnow = s.vnow ∧ t.cfg = s.cfg ∧
      t.result = s.result ∧ t.pending = s.pending ∧ t.host = s.host ∧ t.hostLog = s.hostLog := by
  refine transfer_keeps k
    (fun t => t.globCnt = s.globCnt ∧ t.cas = s.cas ∧ t.mix = s.mix ∧ t.racing = s.racing ∧ t.vnow = s.vnow ∧
      t.cfg = s.cfg ∧ t.result = s.result ∧ t.pending = s.pending ∧ t.host = s.host ∧ t.hostLog = s.hostLog)
    ?_ ?_ ?_ m s (by simp)
  · intro t h _ _; simpa using h
  · intro t n h _; simpa using h
  · intro t h _
    rcases complete_cases k t with ⟨_, e⟩ | ⟨_, e⟩ <;> rw [e] <;> simpa using h

/-- A call changes no runtime field but the ring of its own stream. -/
theorem transfer_rt (k : StreamId) (m : Nat) (s : State) :
    ∃ ring, (transfer k m s).1.rt = s.rt.set k { s.rt.get k with ring := ring } := by
  refine transfer_keeps k (fun t => ∃ ring, t.rt = s.rt.set k { s.rt.get k with ring := ring }) ?_ ?_ ?_ m s
    ⟨(s.rt.get k).ring, (Tri.set_get _ _).symm⟩
  · rintro t h _ _; simpa using h
  · rintro t n ⟨ring, h⟩ _
    rw [moveChunk_rt, h]
    split <;> exact ⟨_, by rw [Tri.get_set_self, Tri.set_set]; rfl⟩
  · intro t h _
    rcases complete_cases k t with ⟨_, e⟩ | ⟨_, e⟩ <;> rw [e] <;> simpa using h

end Sys2Proof.Machine
end

