-- ==== Sys2Proof/Laws/Agents.lean ====
section
/-!
SUPPORT. The steps of the agents (R255): the completion of a store keeps memory canonical, as memory at reset is, and
every operation on a stream's runtime state keeps it good.
-/

namespace Sys2Proof.Machine

open Sys2Proof

/-- Memory at reset has the canonical form. -/
theorem reset_memory_wf : Memory.wf State.reset.mem := by decide

/-- Completing a store keeps memory canonical and backed. -/
theorem completeStore_memoryOk (n : Nat) (s : State) (h : MemoryOk s) : MemoryOk (completeStore n s) := by
  unfold completeStore
  split
  · rename_i a b heq
    have hmem : (a, b) ∈ s.racing := List.mem_of_getElem? heq
    refine writeByte_memoryOk _ a b (h.2.2 _ hmem) ⟨h.1, h.2.1, fun p hp => ?_⟩
    exact h.2.2 p (List.mem_of_mem_eraseIdx hp)
  · exact h

/-- A store issued lies inside the address space. -/
theorem guestStore_memoryOk (a : Addr) (b : Byte) (s : State) (h : MemoryOk s) :
    MemoryOk (agentStep (.guestStore a b) s) := by
  refine ⟨h.1, h.2.1, fun p hp => ?_⟩
  rcases List.mem_append.1 hp with hp | hp
  · exact h.2.2 p hp
  · rw [List.mem_singleton] at hp; subst hp; exact a.isLt

/-- Disabling leaves a good runtime state (R187). -/
theorem closeRuntime_ok (p : Platform) (rt : StreamRuntime) (h : RuntimeOk p rt) : RuntimeOk p (closeRuntime p rt) := by
  obtain ⟨-, -, hw, -, hs⟩ := h
  unfold closeRuntime
  by_cases ha : p.asyncMode = true
  · simp [ha, RuntimeOk, workerDisable]
  · have ha' : p.asyncMode = false := by simpa using ha
    simp [ha', RuntimeOk, hs ha']

/-- A successful open leaves a good runtime state (R185). -/
theorem openRuntime_ok (p : Platform) (k : StreamId) (now : BitVec 64) (rt : StreamRuntime) (h : RuntimeOk p rt) :
    RuntimeOk p (openRuntime p k now rt) := by
  obtain ⟨-, -, -, -, hs⟩ := h
  unfold openRuntime
  by_cases ha : p.asyncMode = true
  · simp [ha, RuntimeOk, workerEnable, armOnePeriod, withPeriods]
  · have ha' : p.asyncMode = false := by simpa using ha
    simp [ha', RuntimeOk, armOnePeriod, withPeriods, hs ha']

/-- Pushing no more than the free room keeps the ring bounded (R38). -/
theorem ringPush_ok (p : Platform) (bytes : List Byte) (rt : StreamRuntime) (h : RuntimeOk p rt)
    (he : rt.enabled = true) (hb : bytes.length ≤ ringFree rt) : RuntimeOk p (ringPush bytes rt) := by
  obtain ⟨hl, ha, hw, -, hs⟩ := h
  refine ⟨?_, ha, hw, fun hf => ?_, hs⟩
  · simp only [ringPush, List.length_append]; unfold ringFree at hb; omega
  · exact absurd (he.symm.trans hf) (by decide)

/-- Popping keeps the ring bounded (R38). -/
theorem ringPop_ok (p : Platform) (n : Nat) (rt : StreamRuntime) (h : RuntimeOk p rt) : RuntimeOk p (ringPop n rt) := by
  obtain ⟨hl, ha, hw, hr, hs⟩ := h
  refine ⟨?_, ha, hw, fun hf => ?_, hs⟩
  · simp only [ringPop, List.length_drop]; omega
  · simp only [ringPop, hr hf, List.drop_nil]

/-- `HostSide` (R231) touches the ring of its own stream only, by a push within the free room or a pop. -/
theorem hostSide_rt (k : StreamId) (s : State) :
    (∃ n, (hostSide k s).rt = s.rt.set k (ringPop n (s.rt.get k))) ∨
      ∃ bytes, bytes.length ≤ ringFree (s.rt.get k) ∧ (hostSide k s).rt = s.rt.set k (ringPush bytes (s.rt.get k)) := by
  cases k
  · exact .inr ⟨_, (List.length_take_le _ _).trans (Nat.min_le_left _ _), rfl⟩
  · exact .inl ⟨_, rfl⟩
  · exact .inr ⟨_, (List.length_take_le _ _).trans (Nat.min_le_left _ _), rfl⟩

/-- The bits a step's status update leaves in the other streams' contributions (R170). -/
theorem contribution_other (j k : StreamId) (sr v : Word) (cr : Byte) (g : Dword) (h : j ≠ k) :
    contribution k sr v cr g &&& gsStream j = g &&& gsStream j := by
  have and_not : ∀ m n : Dword, m &&& n = 0 → (g &&& ~~~m) &&& n = g &&& n := by
    intro m n hmn
    apply BitVec.eq_of_getLsbD_eq
    intro i hi
    have := congrArg (·.getLsbD i) hmn
    simp only [BitVec.getLsbD_and, BitVec.getLsbD_not, hi, decide_true, Bool.true_and] at this ⊢
    revert this
    cases g.getLsbD i <;> cases m.getLsbD i <;> cases n.getLsbD i <;> simp
  have or_and : ∀ m n : Dword, m &&& n = 0 → (g ||| m) &&& n = g &&& n := by
    intro m n hmn
    apply BitVec.eq_of_getLsbD_eq
    intro i hi
    have := congrArg (·.getLsbD i) hmn
    simp only [BitVec.getLsbD_and, BitVec.getLsbD_or] at this ⊢
    revert this
    cases g.getLsbD i <;> cases m.getLsbD i <;> cases n.getLsbD i <;> simp
  have hz : gsStream k &&& gsStream j = 0 := by revert h; cases j <;> cases k <;> decide
  unfold contribution
  dsimp only
  split
  · rfl
  · split
    · exact and_not _ _ hz
    · split
      · exact or_and _ _ hz
      · rfl

end Sys2Proof.Machine
end

