-- ==== Sys2Proof/Laws/Decode.lean ====
section
/-!
SUPPORT. The fields of an encoded word, and the decoder on a word given by its fields.
-/

namespace Sys2Proof

theorem getLsbD_encodeWord (wr mx : Bool) (w : BitVec 2) (off : BitVec 8) (i : Nat) :
    (encodeWord wr mx w off).getLsbD i =
      if i < 8 then off.getLsbD i
      else if i < 12 then false
      else if i < 14 then w.getLsbD (i - 12)
      else if i = 14 then mx
      else if i = 15 then wr else false := by
  unfold encodeWord
  simp only [BitVec.getLsbD_append]
  by_cases h1 : i < 8
  · simp [h1]
  · by_cases h2 : i < 12
    · simp [h1, h2, show i - 8 < 4 by omega]
    · by_cases h3 : i < 14
      · simp [h1, h2, h3, show ¬ i - 8 < 4 by omega, show i - 8 - 4 = i - 12 by omega, show i - 12 < 2 by omega]
      · by_cases h4 : i = 14
        · subst h4; simp
        · by_cases h5 : i = 15
          · subst h5; simp
          · have h6 : ¬ i - 8 - 4 < 2 := by omega
            have h7 : ¬ i - 8 - 4 - 2 < 1 := by omega
            simp [h1, h2, h3, h4, h5, h6, h7, show ¬ i - 8 < 4 by omega]
            omega

@[simp] theorem isWriteWord_encodeWord (wr mx : Bool) (w : BitVec 2) (off : BitVec 8) :
    isWriteWord (encodeWord wr mx w off) = wr := by
  rw [isWriteWord, getLsbD_encodeWord]; rfl

@[simp] theorem isMixerWord_encodeWord (wr mx : Bool) (w : BitVec 2) (off : BitVec 8) :
    isMixerWord (encodeWord wr mx w off) = mx := by
  rw [isMixerWord, getLsbD_encodeWord]; rfl

@[simp] theorem widthField_encodeWord (wr mx : Bool) (w : BitVec 2) (off : BitVec 8) :
    widthField (encodeWord wr mx w off) = w := by
  apply BitVec.eq_of_getLsbD_eq
  intro i hi
  rw [widthField, BitVec.getLsbD_extractLsb', getLsbD_encodeWord]
  have h1 : ¬ 12 + i < 8 := by omega
  have h2 : ¬ 12 + i < 12 := by omega
  have h3 : 12 + i < 14 := by omega
  have h4 : 12 + i - 12 = i := by omega
  simp only [h1, h2, h3, h4, hi, if_false, if_true, decide_true, Bool.true_and]

@[simp] theorem reservedField_encodeWord (wr mx : Bool) (w : BitVec 2) (off : BitVec 8) :
    reservedField (encodeWord wr mx w off) = 0 := by
  apply BitVec.eq_of_getLsbD_eq
  intro i hi
  rw [reservedField, BitVec.getLsbD_extractLsb', getLsbD_encodeWord]
  have h1 : ¬ 8 + i < 8 := by omega
  have h2 : 8 + i < 12 := by omega
  simp [h1, h2]

@[simp] theorem offsetField_encodeWord (wr mx : Bool) (w : BitVec 2) (off : BitVec 8) :
    offsetField (encodeWord wr mx w off) = off := by
  apply BitVec.eq_of_getLsbD_eq
  intro i hi
  rw [offsetField, BitVec.getLsbD_extractLsb', getLsbD_encodeWord]
  simp only [hi, if_true, decide_true, Bool.true_and, Nat.zero_add]

/-- The decoder on a mixer word given by its fields. -/
theorem decode_encodeWord_nam (wr : Bool) (w : BitVec 2) (off : BitVec 8) (d : Dword) (hw : w ≠ 3) :
    decode (encodeWord wr true w off) d = .ok (decodeNam wr w off d) := by
  rw [decode, widthField_encodeWord, reservedField_encodeWord, if_neg hw]
  simp

/-- The decoder on a bus-master word given by its fields. -/
theorem decode_encodeWord_nabm (wr : Bool) (w : BitVec 2) (off : BitVec 8) (d : Dword) (hw : w ≠ 3)
    (ho : off.toNat < 0x40) :
    decode (encodeWord wr false w off) d = .ok (decodeNabm wr w (off.setWidth 6) d) := by
  rw [decode, widthField_encodeWord, reservedField_encodeWord, if_neg hw]
  simp [ho]

end Sys2Proof
end

