-- ==== Sys2Proof/Laws/PerInstr.lean ====
section
/-!
SUPPORT. Per-instruction facts about the syntax: family Encoding says that an instruction's word is one of R80's: bits
11:8 are 0, the width field is not 11, and a bus-master offset is below 0x40.
-/

set_option Elab.async false

namespace Sys2Proof.Laws.Encoding

open Sys2Proof

/-- The encoded word names a transaction (R80, R88 (a)). -/
def Statement (i : Instr) : Prop :=
  reservedField i.word = 0 ∧ widthField i.word ≠ 3 ∧ (isMixerWord i.word = false → (offsetField i.word).toNat < 0x40)

theorem in32NabmPiBdbar : Statement .in32NabmPiBdbar := by simp [Statement, Instr.word]

theorem out32NabmPiBdbar (d : BitVec 32) : Statement (.out32NabmPiBdbar d) := by simp [Statement, Instr.word]

theorem in8NabmPiCiv : Statement .in8NabmPiCiv := by simp [Statement, Instr.word]

theorem out8NabmPiCiv (d : BitVec 8) : Statement (.out8NabmPiCiv d) := by simp [Statement, Instr.word]

theorem in32NabmPiCiv : Statement .in32NabmPiCiv := by simp [Statement, Instr.word]

theorem in8NabmPiLvi : Statement .in8NabmPiLvi := by simp [Statement, Instr.word]

theorem out8NabmPiLvi (d : BitVec 8) : Statement (.out8NabmPiLvi d) := by simp [Statement, Instr.word]

theorem in16NabmPiSr : Statement .in16NabmPiSr := by simp [Statement, Instr.word]

theorem in8NabmPiSr : Statement .in8NabmPiSr := by simp [Statement, Instr.word]

theorem out8NabmPiSr (d : BitVec 8) : Statement (.out8NabmPiSr d) := by simp [Statement, Instr.word]

theorem out16NabmPiSr (d : BitVec 16) : Statement (.out16NabmPiSr d) := by simp [Statement, Instr.word]

theorem in16NabmPiPicb : Statement .in16NabmPiPicb := by simp [Statement, Instr.word]

theorem out16NabmPiPicb (d : BitVec 16) : Statement (.out16NabmPiPicb d) := by simp [Statement, Instr.word]

theorem in32NabmPiPicb : Statement .in32NabmPiPicb := by simp [Statement, Instr.word]

theorem in8NabmPiPiv : Statement .in8NabmPiPiv := by simp [Statement, Instr.word]

theorem out8NabmPiPiv (d : BitVec 8) : Statement (.out8NabmPiPiv d) := by simp [Statement, Instr.word]

theorem in8NabmPiCr : Statement .in8NabmPiCr := by simp [Statement, Instr.word]

theorem out8NabmPiCr (d : BitVec 8) : Statement (.out8NabmPiCr d) := by simp [Statement, Instr.word]

theorem in32NabmPoBdbar : Statement .in32NabmPoBdbar := by simp [Statement, Instr.word]

theorem out32NabmPoBdbar (d : BitVec 32) : Statement (.out32NabmPoBdbar d) := by simp [Statement, Instr.word]

theorem in8NabmPoCiv : Statement .in8NabmPoCiv := by simp [Statement, Instr.word]

theorem out8NabmPoCiv (d : BitVec 8) : Statement (.out8NabmPoCiv d) := by simp [Statement, Instr.word]

theorem in32NabmPoCiv : Statement .in32NabmPoCiv := by simp [Statement, Instr.word]

theorem in8NabmPoLvi : Statement .in8NabmPoLvi := by simp [Statement, Instr.word]

theorem out8NabmPoLvi (d : BitVec 8) : Statement (.out8NabmPoLvi d) := by simp [Statement, Instr.word]

theorem in16NabmPoSr : Statement .in16NabmPoSr := by simp [Statement, Instr.word]

theorem in8NabmPoSr : Statement .in8NabmPoSr := by simp [Statement, Instr.word]

theorem out8NabmPoSr (d : BitVec 8) : Statement (.out8NabmPoSr d) := by simp [Statement, Instr.word]

theorem out16NabmPoSr (d : BitVec 16) : Statement (.out16NabmPoSr d) := by simp [Statement, Instr.word]

theorem in16NabmPoPicb : Statement .in16NabmPoPicb := by simp [Statement, Instr.word]

theorem out16NabmPoPicb (d : BitVec 16) : Statement (.out16NabmPoPicb d) := by simp [Statement, Instr.word]

theorem in32NabmPoPicb : Statement .in32NabmPoPicb := by simp [Statement, Instr.word]

theorem in8NabmPoPiv : Statement .in8NabmPoPiv := by simp [Statement, Instr.word]

theorem out8NabmPoPiv (d : BitVec 8) : Statement (.out8NabmPoPiv d) := by simp [Statement, Instr.word]

theorem in8NabmPoCr : Statement .in8NabmPoCr := by simp [Statement, Instr.word]

theorem out8NabmPoCr (d : BitVec 8) : Statement (.out8NabmPoCr d) := by simp [Statement, Instr.word]

theorem in32NabmMcBdbar : Statement .in32NabmMcBdbar := by simp [Statement, Instr.word]

theorem out32NabmMcBdbar (d : BitVec 32) : Statement (.out32NabmMcBdbar d) := by simp [Statement, Instr.word]

theorem in8NabmMcCiv : Statement .in8NabmMcCiv := by simp [Statement, Instr.word]

theorem out8NabmMcCiv (d : BitVec 8) : Statement (.out8NabmMcCiv d) := by simp [Statement, Instr.word]

theorem in32NabmMcCiv : Statement .in32NabmMcCiv := by simp [Statement, Instr.word]

theorem in8NabmMcLvi : Statement .in8NabmMcLvi := by simp [Statement, Instr.word]

theorem out8NabmMcLvi (d : BitVec 8) : Statement (.out8NabmMcLvi d) := by simp [Statement, Instr.word]

theorem in16NabmMcSr : Statement .in16NabmMcSr := by simp [Statement, Instr.word]

theorem in8NabmMcSr : Statement .in8NabmMcSr := by simp [Statement, Instr.word]

theorem out8NabmMcSr (d : BitVec 8) : Statement (.out8NabmMcSr d) := by simp [Statement, Instr.word]

theorem out16NabmMcSr (d : BitVec 16) : Statement (.out16NabmMcSr d) := by simp [Statement, Instr.word]

theorem in16NabmMcPicb : Statement .in16NabmMcPicb := by simp [Statement, Instr.word]

theorem out16NabmMcPicb (d : BitVec 16) : Statement (.out16NabmMcPicb d) := by simp [Statement, Instr.word]

theorem in32NabmMcPicb : Statement .in32NabmMcPicb := by simp [Statement, Instr.word]

theorem in8NabmMcPiv : Statement .in8NabmMcPiv := by simp [Statement, Instr.word]

theorem out8NabmMcPiv (d : BitVec 8) : Statement (.out8NabmMcPiv d) := by simp [Statement, Instr.word]

theorem in8NabmMcCr : Statement .in8NabmMcCr := by simp [Statement, Instr.word]

theorem out8NabmMcCr (d : BitVec 8) : Statement (.out8NabmMcCr d) := by simp [Statement, Instr.word]

theorem in32NabmGlobCnt : Statement .in32NabmGlobCnt := by simp [Statement, Instr.word]

theorem out32NabmGlobCnt (d : BitVec 32) : Statement (.out32NabmGlobCnt d) := by simp [Statement, Instr.word]

theorem in32NabmGlobSta : Statement .in32NabmGlobSta := by simp [Statement, Instr.word]

theorem out32NabmGlobSta (d : BitVec 32) : Statement (.out32NabmGlobSta d) := by simp [Statement, Instr.word]

theorem in8NabmCas : Statement .in8NabmCas := by simp [Statement, Instr.word]

theorem out8NabmCas (d : BitVec 8) : Statement (.out8NabmCas d) := by simp [Statement, Instr.word]

theorem in8NabmUnsupported (off : BitVec 6) : Statement (.in8NabmUnsupported off) := by
  simp only [Statement, Instr.word, reservedField_encodeWord, widthField_encodeWord, offsetField_encodeWord,
    BitVec.toNat_setWidth]
  exact ⟨trivial, by decide, fun _ => by have := off.isLt; omega⟩

theorem in16NabmUnsupported (off : BitVec 6) : Statement (.in16NabmUnsupported off) := by
  simp only [Statement, Instr.word, reservedField_encodeWord, widthField_encodeWord, offsetField_encodeWord,
    BitVec.toNat_setWidth]
  exact ⟨trivial, by decide, fun _ => by have := off.isLt; omega⟩

theorem in32NabmUnsupported (off : BitVec 6) : Statement (.in32NabmUnsupported off) := by
  simp only [Statement, Instr.word, reservedField_encodeWord, widthField_encodeWord, offsetField_encodeWord,
    BitVec.toNat_setWidth]
  exact ⟨trivial, by decide, fun _ => by have := off.isLt; omega⟩

theorem out8NabmUnsupported (off : BitVec 6) (d : BitVec 8) : Statement (.out8NabmUnsupported off d) := by
  simp only [Statement, Instr.word, reservedField_encodeWord, widthField_encodeWord, offsetField_encodeWord,
    BitVec.toNat_setWidth]
  exact ⟨trivial, by decide, fun _ => by have := off.isLt; omega⟩

theorem out16NabmUnsupported (off : BitVec 6) (d : BitVec 16) : Statement (.out16NabmUnsupported off d) := by
  simp only [Statement, Instr.word, reservedField_encodeWord, widthField_encodeWord, offsetField_encodeWord,
    BitVec.toNat_setWidth]
  exact ⟨trivial, by decide, fun _ => by have := off.isLt; omega⟩

theorem out32NabmUnsupported (off : BitVec 6) (d : BitVec 32) : Statement (.out32NabmUnsupported off d) := by
  simp only [Statement, Instr.word, reservedField_encodeWord, widthField_encodeWord, offsetField_encodeWord,
    BitVec.toNat_setWidth]
  exact ⟨trivial, by decide, fun _ => by have := off.isLt; omega⟩

theorem in16NamReg (reg : BitVec 7) : Statement (.in16NamReg reg) := by simp [Statement, Instr.word]

theorem out16NamReg (reg : BitVec 7) (d : BitVec 16) : Statement (.out16NamReg reg d) := by simp [Statement, Instr.word]

theorem out16NamReset (d : BitVec 16) : Statement (.out16NamReset d) := by simp [Statement, Instr.word]

theorem out16NamMasterVol (d : BitVec 16) : Statement (.out16NamMasterVol d) := by simp [Statement, Instr.word]

theorem out16NamHeadphoneVol (d : BitVec 16) : Statement (.out16NamHeadphoneVol d) := by simp [Statement, Instr.word]

theorem out16NamMicVol (d : BitVec 16) : Statement (.out16NamMicVol d) := by simp [Statement, Instr.word]

theorem out16NamLineInVol (d : BitVec 16) : Statement (.out16NamLineInVol d) := by simp [Statement, Instr.word]

theorem out16NamPcmOutVol (d : BitVec 16) : Statement (.out16NamPcmOutVol d) := by simp [Statement, Instr.word]

theorem out16NamRecordSelect (d : BitVec 16) : Statement (.out16NamRecordSelect d) := by simp [Statement, Instr.word]

theorem out16NamRecordGain (d : BitVec 16) : Statement (.out16NamRecordGain d) := by simp [Statement, Instr.word]

theorem out16NamRecordGainMic (d : BitVec 16) : Statement (.out16NamRecordGainMic d) := by simp [Statement, Instr.word]

theorem out16NamPowerdown (d : BitVec 16) : Statement (.out16NamPowerdown d) := by simp [Statement, Instr.word]

theorem out16NamExtAudioId (d : BitVec 16) : Statement (.out16NamExtAudioId d) := by simp [Statement, Instr.word]

theorem out16NamExtAudioCtrl (d : BitVec 16) : Statement (.out16NamExtAudioCtrl d) := by simp [Statement, Instr.word]

theorem out16NamPcmFrontDacRate (d : BitVec 16) : Statement (.out16NamPcmFrontDacRate d) := by simp [Statement, Instr.word]

theorem out16NamPcmLrAdcRate (d : BitVec 16) : Statement (.out16NamPcmLrAdcRate d) := by simp [Statement, Instr.word]

theorem out16NamMicAdcRate (d : BitVec 16) : Statement (.out16NamMicAdcRate d) := by simp [Statement, Instr.word]

theorem out16NamVendorId1 (d : BitVec 16) : Statement (.out16NamVendorId1 d) := by simp [Statement, Instr.word]

theorem out16NamVendorId2 (d : BitVec 16) : Statement (.out16NamVendorId2 d) := by simp [Statement, Instr.word]

theorem in8NamUnsupported (off : BitVec 8) : Statement (.in8NamUnsupported off) := by simp [Statement, Instr.word]

theorem in32NamUnsupported (off : BitVec 8) : Statement (.in32NamUnsupported off) := by simp [Statement, Instr.word]

theorem out8NamUnsupported (off : BitVec 8) (d : BitVec 8) : Statement (.out8NamUnsupported off d) := by simp [Statement, Instr.word]

theorem out32NamUnsupported (off : BitVec 8) (d : BitVec 32) : Statement (.out32NamUnsupported off d) := by simp [Statement, Instr.word]

theorem in16NamOdd (reg : BitVec 7) : Statement (.in16NamOdd reg) := by simp [Statement, Instr.word]

theorem out16NamOdd (reg : BitVec 7) (d : BitVec 16) : Statement (.out16NamOdd reg d) := by simp [Statement, Instr.word]

end Sys2Proof.Laws.Encoding
end

