-- ==== Sys2Proof/Laws/Step.lean ====
section
/-!
SUPPORT. What running an event can do: a port access names a word the decoder takes, and every event answers a next state
or is a port word that the decoder refuses.
-/

namespace Sys2Proof.Machine

open Sys2Proof

/-- No access width has the code that names no transaction (R88 (a)). -/
theorem AccessWidth.code_ne (w : AccessWidth) : w.code ≠ 3 := by cases w <;> decide

/-- The word of a port access decodes, whatever its data. -/
theorem decode_busWord {p : Platform} {write : Bool} {w : AccessWidth} {port : Nat} {t : Word}
    (h : busWord p write w port = some t) (d : Dword) : ∃ i, decode t d = .ok i := by
  unfold busWord at h
  split at h
  · rename_i hp
    obtain rfl := Option.some.inj h
    refine ⟨_, decode_encodeWord_nabm write w.code _ d w.code_ne ?_⟩
    rw [BitVec.toNat_ofNat]; omega
  · split at h
    · obtain rfl := Option.some.inj h
      exact ⟨_, decode_encodeWord_nam write w.code _ d w.code_ne⟩
    · cases h

/-- An access of the bus-master region by its port address (R61). -/
theorem busWord_nabm (p : Platform) (write : Bool) (w : AccessWidth) (off : BitVec 6) :
    busWord p write w (p.nabmBase + off.toNat) = some (encodeWord write false w.code (off.setWidth 8)) := by
  have := off.isLt
  unfold busWord
  rw [if_pos (by omega), Nat.add_sub_cancel_left]
  congr 2
  apply BitVec.eq_of_toNat_eq
  rw [BitVec.toNat_ofNat, BitVec.toNat_setWidth]

/-- An access of the mixer region by its port address, on a platform whose regions do not overlap (R61). -/
theorem busWord_nam (p : Platform) (hp : p.ok = true) (write : Bool) (w : AccessWidth) (off : BitVec 8) :
    busWord p write w (p.namBase + off.toNat) = some (encodeWord write true w.code off) := by
  have := off.isLt
  simp only [Platform.ok, Bool.and_eq_true, Bool.or_eq_true, decide_eq_true_eq] at hp
  unfold busWord
  rw [if_neg (by omega), if_pos (by omega), Nat.add_sub_cancel_left, BitVec.ofNat_toNat, BitVec.setWidth_eq]

/-- What an event can do: an instruction's meaning, nothing (a port that is not the device's), an agent's step, or a
refusal of a word that names no transaction. -/
theorem runEvent_cases (e : Event) (s : State) :
    (∃ i, runEvent e s = exec i s) ∨ runEvent e s = .next s ∨ (∃ a, e = .agent a ∧ runEvent e s = .next (agentStep a s)) ∨
      ∃ t d why, e = .port t d ∧ decode t d = .error why ∧ runEvent e s = .refused (.noTransaction why) := by
  cases e with
  | port t d =>
    cases h : decode t d with
    | ok i => exact .inl ⟨i, by simp [runEvent, runPort, h]⟩
    | error why => exact .inr (.inr (.inr ⟨t, d, why, rfl, h, by simp [runEvent, runPort, h]⟩))
  | access write w port d =>
    cases h : busWord s.cfg write w port with
    | none => exact .inr (.inl (by simp [runEvent, h]))
    | some t =>
      obtain ⟨i, hi⟩ := decode_busWord h d
      exact .inl ⟨i, by simp [runEvent, h, runPort, hi]⟩
  | agent a => exact .inr (.inr (.inl ⟨a, rfl, rfl⟩))

end Sys2Proof.Machine
end

