-- ==== Sys2Proof/Tests/Slice0.lean ====
section
/-!
SUPPORT. The model's own tests. Expected values come from spec/95_test_vectors.md (the vector is named) or are worked by
hand from the rule cited; the words of the decode tests are written bit by bit from spec/30_encoding.md R80, R81 and R84.
The `test_witness_` theorems show states and operands that meet the hypotheses of the statement they name.
-/

set_option Elab.async false

open Sys2Proof Sys2Proof.Machine

/-! ## Helpers -/

/-- One field of the next state. -/
def Tests.field {α : Type} (f : State → α) : Host.Outcome State Fault Refusal → Option α
  | .next s => some (f s)
  | .fault _ => none
  | .refused _ => none

/-- A host that opens every stream, whose sinks are active and take and give nothing. -/
def Tests.kindHost : HostAnswers := ⟨true, true, 0, 0, 0, []⟩

/-- The machine after reset with such a host: the convention of spec/95_test_vectors.md. -/
def Tests.base : State := { State.reset with host := ⟨kindHost, kindHost, kindHost⟩ }

/-- One stream's registers replaced. -/
def Tests.withRegs (k : StreamId) (r : StreamRegs) : State := { base with regs := base.regs.set k r }

/-- Bytes in guest memory from an address on, none there before. -/
def Tests.cells (a : Nat) : List Byte → List Host.Cell
  | [] => []
  | b :: bs => (a, b) :: cells (a + 1) bs

/-- A running PCM Out as in L1-4: descriptor 0 in use, IOC set, interrupts enabled. -/
def Tests.running : StreamRegs :=
  { StreamRegs.reset with
    bdbar := 0x1000, lvi := 2, piv := 1, sr := 0, picb := 0x10, cr := 0x11, bdValid := true, bdAddr := 0x2000,
    bdCtl := 0x80000010 }

open Tests

/-! ## Well-formed terms: a term each check refuses, and its neighbour that it takes -/

/-- R82 decodes a byte access of SR at 0x06, and none at 0x07. -/
theorem test_wf_byte_read : ¬(Instr.in8NabmUnsupported 0x06).WellFormed ∧ (Instr.in8NabmUnsupported 0x07).WellFormed := by
  decide

/-- R82 decodes a byte write of CAS at 0x34. -/
theorem test_wf_byte_write :
    ¬(Instr.out8NabmUnsupported 0x34 0).WellFormed ∧ (Instr.out8NabmUnsupported 0x2C 0).WellFormed := by
  decide

/-- R82 decodes a word read of PICB at 0x18, and none at 0x14. -/
theorem test_wf_word_read :
    ¬(Instr.in16NabmUnsupported 0x18).WellFormed ∧ (Instr.in16NabmUnsupported 0x14).WellFormed := by
  decide

/-- R82 decodes a word write of SR at 0x26. -/
theorem test_wf_word_write :
    ¬(Instr.out16NabmUnsupported 0x26 0).WellFormed ∧ (Instr.out16NabmUnsupported 0x36 0).WellFormed := by
  decide

/-- R82 decodes a packed dword read at 0x14. -/
theorem test_wf_dword_read :
    ¬(Instr.in32NabmUnsupported 0x14).WellFormed ∧ (Instr.in32NabmUnsupported 0x3C).WellFormed := by
  decide

/-- R82 decodes a dword write of BDBAR at 0x20, and none at 0x14. -/
theorem test_wf_dword_write :
    ¬(Instr.out32NabmUnsupported 0x20 0).WellFormed ∧ (Instr.out32NabmUnsupported 0x14 0).WellFormed := by
  decide

/-- R198: the Master Volume at register 1 has its own row, the Master Mono at register 3 has none. -/
theorem test_wf_mixer : ¬(Instr.out16NamReg 1 0).WellFormed ∧ (Instr.out16NamReg 3 0).WellFormed := by
  decide

/-! ## Decoding -/

/-- R80, R81: the words of PCM In, bit by bit: dir, rgn, w, zeros, off. -/
theorem test_decode_pi :
  decode 0b0_0_10_0000_00000000 0 = .ok .in32NabmPiBdbar ∧
  decode 0b1_0_10_0000_00000000 0xA1B2C3D4 = .ok (.out32NabmPiBdbar 0xa1b2c3d4) ∧
  decode 0b0_0_00_0000_00000100 0 = .ok .in8NabmPiCiv ∧
  decode 0b1_0_00_0000_00000100 0xA1B2C3D4 = .ok (.out8NabmPiCiv 0xd4) ∧
  decode 0b0_0_10_0000_00000100 0 = .ok .in32NabmPiCiv ∧
  decode 0b0_0_00_0000_00000101 0 = .ok .in8NabmPiLvi ∧
  decode 0b1_0_00_0000_00000101 0xA1B2C3D4 = .ok (.out8NabmPiLvi 0xd4) ∧
  decode 0b0_0_01_0000_00000110 0 = .ok .in16NabmPiSr ∧
  decode 0b0_0_00_0000_00000110 0 = .ok .in8NabmPiSr ∧
  decode 0b1_0_00_0000_00000110 0xA1B2C3D4 = .ok (.out8NabmPiSr 0xd4) ∧
  decode 0b1_0_01_0000_00000110 0xA1B2C3D4 = .ok (.out16NabmPiSr 0xc3d4) ∧
  decode 0b0_0_01_0000_00001000 0 = .ok .in16NabmPiPicb ∧
  decode 0b1_0_01_0000_00001000 0xA1B2C3D4 = .ok (.out16NabmPiPicb 0xc3d4) ∧
  decode 0b0_0_10_0000_00001000 0 = .ok .in32NabmPiPicb ∧
  decode 0b0_0_00_0000_00001010 0 = .ok .in8NabmPiPiv ∧
  decode 0b1_0_00_0000_00001010 0xA1B2C3D4 = .ok (.out8NabmPiPiv 0xd4) ∧
  decode 0b0_0_00_0000_00001011 0 = .ok .in8NabmPiCr ∧
  decode 0b1_0_00_0000_00001011 0xA1B2C3D4 = .ok (.out8NabmPiCr 0xd4) := by
  decide

/-- R80, R81: the words of PCM Out, bit by bit: dir, rgn, w, zeros, off. -/
theorem test_decode_po :
  decode 0b0_0_10_0000_00010000 0 = .ok .in32NabmPoBdbar ∧
  decode 0b1_0_10_0000_00010000 0xA1B2C3D4 = .ok (.out32NabmPoBdbar 0xa1b2c3d4) ∧
  decode 0b0_0_00_0000_00010100 0 = .ok .in8NabmPoCiv ∧
  decode 0b1_0_00_0000_00010100 0xA1B2C3D4 = .ok (.out8NabmPoCiv 0xd4) ∧
  decode 0b0_0_10_0000_00010100 0 = .ok .in32NabmPoCiv ∧
  decode 0b0_0_00_0000_00010101 0 = .ok .in8NabmPoLvi ∧
  decode 0b1_0_00_0000_00010101 0xA1B2C3D4 = .ok (.out8NabmPoLvi 0xd4) ∧
  decode 0b0_0_01_0000_00010110 0 = .ok .in16NabmPoSr ∧
  decode 0b0_0_00_0000_00010110 0 = .ok .in8NabmPoSr ∧
  decode 0b1_0_00_0000_00010110 0xA1B2C3D4 = .ok (.out8NabmPoSr 0xd4) ∧
  decode 0b1_0_01_0000_00010110 0xA1B2C3D4 = .ok (.out16NabmPoSr 0xc3d4) ∧
  decode 0b0_0_01_0000_00011000 0 = .ok .in16NabmPoPicb ∧
  decode 0b1_0_01_0000_00011000 0xA1B2C3D4 = .ok (.out16NabmPoPicb 0xc3d4) ∧
  decode 0b0_0_10_0000_00011000 0 = .ok .in32NabmPoPicb ∧
  decode 0b0_0_00_0000_00011010 0 = .ok .in8NabmPoPiv ∧
  decode 0b1_0_00_0000_00011010 0xA1B2C3D4 = .ok (.out8NabmPoPiv 0xd4) ∧
  decode 0b0_0_00_0000_00011011 0 = .ok .in8NabmPoCr ∧
  decode 0b1_0_00_0000_00011011 0xA1B2C3D4 = .ok (.out8NabmPoCr 0xd4) := by
  decide

/-- R80, R81: the words of Mic In, bit by bit: dir, rgn, w, zeros, off. -/
theorem test_decode_mc :
  decode 0b0_0_10_0000_00100000 0 = .ok .in32NabmMcBdbar ∧
  decode 0b1_0_10_0000_00100000 0xA1B2C3D4 = .ok (.out32NabmMcBdbar 0xa1b2c3d4) ∧
  decode 0b0_0_00_0000_00100100 0 = .ok .in8NabmMcCiv ∧
  decode 0b1_0_00_0000_00100100 0xA1B2C3D4 = .ok (.out8NabmMcCiv 0xd4) ∧
  decode 0b0_0_10_0000_00100100 0 = .ok .in32NabmMcCiv ∧
  decode 0b0_0_00_0000_00100101 0 = .ok .in8NabmMcLvi ∧
  decode 0b1_0_00_0000_00100101 0xA1B2C3D4 = .ok (.out8NabmMcLvi 0xd4) ∧
  decode 0b0_0_01_0000_00100110 0 = .ok .in16NabmMcSr ∧
  decode 0b0_0_00_0000_00100110 0 = .ok .in8NabmMcSr ∧
  decode 0b1_0_00_0000_00100110 0xA1B2C3D4 = .ok (.out8NabmMcSr 0xd4) ∧
  decode 0b1_0_01_0000_00100110 0xA1B2C3D4 = .ok (.out16NabmMcSr 0xc3d4) ∧
  decode 0b0_0_01_0000_00101000 0 = .ok .in16NabmMcPicb ∧
  decode 0b1_0_01_0000_00101000 0xA1B2C3D4 = .ok (.out16NabmMcPicb 0xc3d4) ∧
  decode 0b0_0_10_0000_00101000 0 = .ok .in32NabmMcPicb ∧
  decode 0b0_0_00_0000_00101010 0 = .ok .in8NabmMcPiv ∧
  decode 0b1_0_00_0000_00101010 0xA1B2C3D4 = .ok (.out8NabmMcPiv 0xd4) ∧
  decode 0b0_0_00_0000_00101011 0 = .ok .in8NabmMcCr ∧
  decode 0b1_0_00_0000_00101011 0xA1B2C3D4 = .ok (.out8NabmMcCr 0xd4) := by
  decide

/-- R80, R81: the words of the global registers, bit by bit: dir, rgn, w, zeros, off. -/
theorem test_decode_global :
  decode 0b0_0_10_0000_00101100 0 = .ok .in32NabmGlobCnt ∧
  decode 0b1_0_10_0000_00101100 0xA1B2C3D4 = .ok (.out32NabmGlobCnt 0xa1b2c3d4) ∧
  decode 0b0_0_10_0000_00110000 0 = .ok .in32NabmGlobSta ∧
  decode 0b1_0_10_0000_00110000 0xA1B2C3D4 = .ok (.out32NabmGlobSta 0xa1b2c3d4) ∧
  decode 0b0_0_00_0000_00110100 0 = .ok .in8NabmCas ∧
  decode 0b1_0_00_0000_00110100 0xA1B2C3D4 = .ok (.out8NabmCas 0xd4) := by
  decide

/-- R80, R81: the words of unsupported accesses of the bus-master region (R82, R101), bit by bit: dir, rgn, w, zeros, off. -/
theorem test_decode_nabm_rest :
  decode 0b0_0_00_0000_00000111 0 = .ok (.in8NabmUnsupported 0x07) ∧
  decode 0b0_0_01_0000_00010100 0 = .ok (.in16NabmUnsupported 0x14) ∧
  decode 0b0_0_10_0000_00111100 0 = .ok (.in32NabmUnsupported 0x3C) ∧
  decode 0b1_0_00_0000_00101100 0xA1B2C3D4 = .ok (.out8NabmUnsupported 0x2C 0xd4) ∧
  decode 0b1_0_01_0000_00110100 0xA1B2C3D4 = .ok (.out16NabmUnsupported 0x34 0xc3d4) ∧
  decode 0b1_0_10_0000_00010100 0xA1B2C3D4 = .ok (.out32NabmUnsupported 0x14 0xa1b2c3d4) := by
  decide

/-- R80, R81: the words of the plain and the unsupported accesses of the mixer region (R196, R197, R203), bit by bit: dir, rgn, w, zeros, off. -/
theorem test_decode_nam_rest :
  decode 0b0_1_01_0000_01111100 0 = .ok (.in16NamReg 0x3E) ∧
  decode 0b1_1_01_0000_00000110 0xA1B2C3D4 = .ok (.out16NamReg 3 0xc3d4) ∧
  decode 0b0_1_00_0000_00000010 0 = .ok (.in8NamUnsupported 0x02) ∧
  decode 0b0_1_10_0000_00000000 0 = .ok (.in32NamUnsupported 0x00) ∧
  decode 0b1_1_00_0000_00000001 0xA1B2C3D4 = .ok (.out8NamUnsupported 0x01 0xd4) ∧
  decode 0b1_1_10_0000_11111111 0xA1B2C3D4 = .ok (.out32NamUnsupported 0xFF 0xa1b2c3d4) ∧
  decode 0b0_1_01_0000_00000011 0 = .ok (.in16NamOdd 1) ∧
  decode 0b1_1_01_0000_01111111 0xA1B2C3D4 = .ok (.out16NamOdd 0x3F 0xc3d4) := by
  decide

/-- R80, R81: the words of the codec registers with a write rule of their own (R84, R198), bit by bit: dir, rgn, w, zeros, off. -/
theorem test_decode_nam :
  decode 0b1_1_01_0000_00000000 0xA1B2C3D4 = .ok (.out16NamReset 0xc3d4) ∧
  decode 0b1_1_01_0000_00000010 0xA1B2C3D4 = .ok (.out16NamMasterVol 0xc3d4) ∧
  decode 0b1_1_01_0000_00000100 0xA1B2C3D4 = .ok (.out16NamHeadphoneVol 0xc3d4) ∧
  decode 0b1_1_01_0000_00001110 0xA1B2C3D4 = .ok (.out16NamMicVol 0xc3d4) ∧
  decode 0b1_1_01_0000_00010000 0xA1B2C3D4 = .ok (.out16NamLineInVol 0xc3d4) ∧
  decode 0b1_1_01_0000_00011000 0xA1B2C3D4 = .ok (.out16NamPcmOutVol 0xc3d4) ∧
  decode 0b1_1_01_0000_00011010 0xA1B2C3D4 = .ok (.out16NamRecordSelect 0xc3d4) ∧
  decode 0b1_1_01_0000_00011100 0xA1B2C3D4 = .ok (.out16NamRecordGain 0xc3d4) ∧
  decode 0b1_1_01_0000_00011110 0xA1B2C3D4 = .ok (.out16NamRecordGainMic 0xc3d4) ∧
  decode 0b1_1_01_0000_00100110 0xA1B2C3D4 = .ok (.out16NamPowerdown 0xc3d4) ∧
  decode 0b1_1_01_0000_00101000 0xA1B2C3D4 = .ok (.out16NamExtAudioId 0xc3d4) ∧
  decode 0b1_1_01_0000_00101010 0xA1B2C3D4 = .ok (.out16NamExtAudioCtrl 0xc3d4) ∧
  decode 0b1_1_01_0000_00101100 0xA1B2C3D4 = .ok (.out16NamPcmFrontDacRate 0xc3d4) ∧
  decode 0b1_1_01_0000_00110010 0xA1B2C3D4 = .ok (.out16NamPcmLrAdcRate 0xc3d4) ∧
  decode 0b1_1_01_0000_00110100 0xA1B2C3D4 = .ok (.out16NamMicAdcRate 0xc3d4) ∧
  decode 0b1_1_01_0000_01111100 0xA1B2C3D4 = .ok (.out16NamVendorId1 0xc3d4) ∧
  decode 0b1_1_01_0000_01111110 0xA1B2C3D4 = .ok (.out16NamVendorId2 0xc3d4) := by
  decide

/-- R88 (a): words that name no transaction are refused by name. -/
theorem test_decode_refused :
    decode 0b0_0_11_0000_00000000 0 = .error .widthField ∧ decode 0b0_0_00_0001_00000000 0 = .error .reservedBits ∧
      decode 0b0_0_00_0000_01000000 0 = .error .nabmOffset := by
  decide

/-- A numbered instruction as the table lays it out: T in bits 15:0, D above. -/
theorem test_table_word :
    decodeTableWord 48 0x00001000A010 = some (.out32NabmPoBdbar 0x1000) ∧
      decodeTableWord 16 0xA010 = some (.out32NabmPoBdbar 0) := by
  decide

/-- A placed instruction is the one the next step runs (N24). -/
theorem test_step_runs_placed_word :
    field State.result (step (State.reset.withFetchWord 16 0x2030)) = some (.dword 0x100) := by
  decide

/-! ## Bus-master registers -/

/-- N2. -/
theorem test_bdbar_write :
    field (fun s => s.regs.po.bdbar) (exec (.out32NabmPoBdbar 0x00100007) base) = some 0x00100004 := by
  decide

/-- N1, second access. -/
theorem test_bdbar_read :
    field State.result (exec .in32NabmPiBdbar (withRegs .pi { StreamRegs.reset with bdbar := 0x12345670 })) =
      some (.dword 0x12345670) := by
  decide

/-- N29. -/
theorem test_index_read :
    field State.result (exec .in32NabmPiCiv
      (withRegs .pi { StreamRegs.reset with civ := 2, lvi := 5, sr := 0x0008 })) = some (.dword 0x00080502) := by
  decide

/-- N30. -/
theorem test_position_read :
    field State.result (exec .in32NabmPiPicb
      (withRegs .pi { StreamRegs.reset with picb := 0x0100, piv := 3, cr := 0x11 })) = some (.dword 0x11030100) := by
  decide

/-- N5. -/
theorem test_status_reads_at_reset :
    field State.result (exec .in16NabmPiSr base) = some (.word 0x0001) ∧
      field State.result (exec .in8NabmPiSr base) = some (.byte 0x01) ∧
      field State.result (exec (.in8NabmUnsupported 0x07) base) = some (.byte 0xFF) := by
  decide

/-- R104, R107, R122, R120, R115 on one stream, the other streams' values being different. -/
theorem test_single_reads :
    let s := withRegs .mc { StreamRegs.reset with civ := 3, lvi := 9, piv := 4, picb := 0x0102, cr := 0x15 }
    field State.result (exec .in8NabmMcCiv s) = some (.byte 3) ∧
      field State.result (exec .in8NabmMcLvi s) = some (.byte 9) ∧
      field State.result (exec .in8NabmMcPiv s) = some (.byte 4) ∧
      field State.result (exec .in16NabmMcPicb s) = some (.word 0x0102) ∧
      field State.result (exec .in8NabmMcCr s) = some (.byte 0x15) := by
  decide

/-- N10. -/
theorem test_lvi_write_stopped :
    field (fun s => s.regs.pi.lvi) (exec (.out8NabmPiLvi 0x25) base) = some 5 := by
  decide

/-- L1-2. -/
theorem test_lvi_write_restarts :
    field (fun s => (s.regs.po.sr, s.regs.po.civ, s.regs.po.piv, s.regs.po.lvi, s.regs.po.bdAddr, s.regs.po.picb))
      (exec (.out8NabmPoLvi 0x03)
        { withRegs .po { StreamRegs.reset with bdbar := 0x1000, civ := 1, lvi := 1, piv := 2, cr := 0x01, sr := 0x0007 }
          with mem := cells 0x1010 [0, 0x40, 0, 0, 0, 1, 0, 0] }) =
      some (0x0004, 2, 3, 3, 0x4000, 0x0100) := by
  decide

/-- N11, N12: writes to CIV and PICB. -/
theorem test_read_only_writes :
    let s := withRegs .pi { StreamRegs.reset with civ := 3, piv := 4, picb := 0x80 }
    field (fun s => s.regs.pi.civ) (exec (.out8NabmPiCiv 7) s) = some 3 ∧
      field (fun s => s.regs.pi.picb) (exec (.out16NabmPiPicb 0) s) = some 0x80 ∧
      field (fun s => s.regs.pi.piv) (exec (.out8NabmPiPiv 9) s) = some 4 := by
  decide

/-- N13 (a restored FIFOE) with the contribution of PI withdrawn. -/
theorem test_sr_write_all_ones :
    field (fun s => (s.regs.pi.sr, s.globSta)) (exec (.out16NabmPiSr 0xFFFF)
      { withRegs .pi { StreamRegs.reset with sr := 0x001D } with globSta := 0x20 }) = some (0x0001, 0) := by
  decide

/-- N15: with LVBIE clear the contribution is kept while LVBCI is still set. -/
theorem test_sr_write_partial_clear :
    field (fun s => (s.regs.po.sr, s.globSta, s.inta)) (exec (.out16NabmPoSr 0x0008)
      { withRegs .po { StreamRegs.reset with sr := 0x000F, cr := 0x11 } with globSta := 0x40 }) =
      some (0x0007, 0x40, true) := by
  decide

/-- N16. -/
theorem test_sr_byte_write :
    field (fun s => (s.regs.po.sr, s.globSta, s.inta)) (exec (.out8NabmPoSr 0x04)
      { withRegs .po { StreamRegs.reset with sr := 0x0007, cr := 0x11 } with globSta := 0x40 }) =
      some (0x0003, 0, false) := by
  decide

/-- S2: the line stays high while another stream contributes. -/
theorem test_sr_write_other_stream_contributes :
    field (fun s => (s.globSta, s.inta)) (exec (.out16NabmPoSr 0x0008)
      { withRegs .po { StreamRegs.reset with sr := 0x0008, cr := 0x11 } with globSta := 0x60 }) =
      some (0x20, true) := by
  decide

/-- N18. -/
theorem test_cr_write_resets :
    field (fun s => (s.regs.po, s.rt.po.enabled)) (exec (.out8NabmPoCr 0x12)
      (withRegs .po { StreamRegs.reset with bdbar := 0x1000, civ := 4, piv := 5, lvi := 7, sr := 0, cr := 0x11 })) =
      some ({ StreamRegs.reset with cr := 0x10 }, false) := by
  decide

/-- L1-1, step 3. -/
theorem test_cr_write_starts :
    field (fun s => (s.regs.po, s.rt.po.enabled, s.rt.po.armed, s.rt.po.deadline)) (exec (.out8NabmPoCr 0x11)
      { withRegs .po { StreamRegs.reset with bdbar := 0x1000 } with
        mem := cells 0x1000 [0, 0x20, 0, 0, 0, 2, 0, 0x80] }) =
      some (⟨0x1000, 0, 0, 0x0000, 0x0200, 1, 0x11, true, 0x2000, 0x80000200⟩, true, true, 5000000) := by
  decide

/-- L1-1, step 6. -/
theorem test_cr_write_stops :
    field (fun s => (s.regs.po, s.rt.po.enabled)) (exec (.out8NabmPoCr 0x10)
      (withRegs .po ⟨0x1000, 0, 0, 0x0000, 0x0200, 1, 0x11, true, 0x2000, 0x80000200⟩)) =
      some (⟨0x1000, 0, 0, 0x0001, 0x0200, 1, 0x10, true, 0x2000, 0x80000200⟩, false) := by
  decide

/-- N21: a running stream only takes the new control bits. -/
theorem test_cr_write_running :
    field (fun s => (s.regs.po.cr, s.regs.po.sr, s.globSta)) (exec (.out8NabmPoCr 0x11)
      (withRegs .po { running with cr := 0x01, sr := 0x0008 })) = some (0x11, 0x0008, 0) := by
  decide

/-- N23, R-3. -/
theorem test_glob_cnt_write :
    field State.globCnt (exec (.out32NabmGlobCnt 0xFFFFFFF9) base) = some 0x39 ∧
      field State.globCnt (exec (.out32NabmGlobCnt 0x2) { base with globCnt := 1 }) = some 1 := by
  decide

/-- N25. -/
theorem test_glob_sta_write :
    field (fun s => (s.globSta, s.inta)) (exec (.out32NabmGlobSta 0xFFFFFFFF) { base with globSta := 0x40 }) =
      some (0x00030040, true) := by
  decide

/-- N27, N28. -/
theorem test_cas :
    field (fun s => (s.result, s.cas)) (exec .in8NabmCas { base with cas := 1 }) = some (.byte 1, 0) ∧
      field State.cas (exec (.out8NabmCas 1) base) = some 0 := by
  decide

/-- N8, N9. -/
theorem test_unsupported :
    field State.result (exec (.in32NabmUnsupported 0x3C) base) = some (.dword 0xFFFFFFFF) ∧
      field (fun s => s.regs.po.lvi) (exec (.out32NabmUnsupported 0x14 0x01020304) base) = some 0 := by
  decide

/-! ## Codec -/

/-- M1, M3. -/
theorem test_mixer_reset_values :
    field State.result (exec (.in16NamReg 0x3E) base) = some (.word 0x8384) ∧
      field State.result (exec (.in16NamReg 0x3F) base) = some (.word 0x7600) ∧
      field State.result (exec (.in16NamReg 0x14) base) = some (.word 0x0809) ∧
      field State.result (exec (.in16NamReg 0x13) base) = some (.word 0x000F) := by
  decide

/-- M2. -/
theorem test_mixer_reset_ad1981b : mixerResetAt 0x7C .ad1981b = 0x4144 ∧ mixerResetAt 0x7E .ad1981b = 0x5374 := by
  decide

/-- M19, M16. -/
theorem test_mixer_plain_store :
    field (fun s => (s.mixAt 0x06, s.cas)) (exec (.out16NamReg 3 0xFFFF) { base with cas := 1 }) =
      some (0xFFFF, 0) := by
  decide

/-- L1-7, the quirk. -/
theorem test_quirk_volumes :
    field (fun s => s.mixAt 0x02) (exec (.out16NamMasterVol 0x2020) base) = some 0x3F3F ∧
      field (fun s => s.mixAt 0x02) (exec (.out16NamMasterVol 0x801F) base) = some 0x801F ∧
      field (fun s => s.mixAt 0x04) (exec (.out16NamHeadphoneVol 0x8A25) base) = some 0x8A3F := by
  decide

/-- L1-7, verbatim registers. -/
theorem test_verbatim_volumes :
    field (fun s => s.mixAt 0x18) (exec (.out16NamPcmOutVol 0x9F1F) base) = some 0x9F1F ∧
      field (fun s => s.mixAt 0x0E) (exec (.out16NamMicVol 0x8808) base) = some 0x8808 ∧
      field (fun s => s.mixAt 0x10) (exec (.out16NamLineInVol 0x1234) base) = some 0x1234 ∧
      field (fun s => s.mixAt 0x1C) (exec (.out16NamRecordGain 0x0F0F) base) = some 0x0F0F ∧
      field (fun s => s.mixAt 0x1E) (exec (.out16NamRecordGainMic 0x8000) base) = some 0x8000 := by
  decide

/-- M17, M18. -/
theorem test_volume_of :
    volumeOf 255 0x8A04 = ⟨true, 215, 239⟩ ∧ volumeOf 255 0x1F1F = ⟨false, 131, 131⟩ ∧
      volumeOf 255 0 = ⟨false, 255, 255⟩ ∧ gainOf 255 0x0F0F = ⟨false, 255, 255⟩ ∧
      gainOf 255 0x8000 = ⟨true, 255, 255⟩ := by
  decide

/-- M5, M6, M7. -/
theorem test_record_select :
    field (fun s => s.mixAt 0x1A) (exec (.out16NamRecordSelect 0xFF04) base) = some 0x0704 ∧
      field (fun s => s.mixAt 0x1A) (exec (.out16NamRecordSelect 0x0505) base) = some 0 ∧
      field (fun s => s.mixAt 0x1A) (exec (.out16NamRecordSelect 0x0603) base) = some 3 := by
  decide

/-- M8. -/
theorem test_powerdown :
    field (fun s => s.mixAt 0x26) (exec (.out16NamPowerdown 0xFFFF) base) = some 0xFFFF ∧
      field (fun s => s.mixAt 0x26) (exec (.out16NamPowerdown 0) base) = some 0x000F := by
  decide

/-- M4, R207. -/
theorem test_codec_read_only :
    field (fun s => s.mixAt 0x7C) (exec (.out16NamVendorId1 0) base) = some 0x8384 ∧
      field (fun s => s.mixAt 0x7E) (exec (.out16NamVendorId2 0) base) = some 0x7600 ∧
      field (fun s => s.mixAt 0x28) (exec (.out16NamExtAudioId 0) base) = some 0x0809 := by
  decide

/-- M10. -/
theorem test_ext_audio_ctrl :
    field (fun s => (s.mixAt 0x2C, s.mixAt 0x32, s.mixAt 0x34, s.mixAt 0x2A))
      (exec (.out16NamExtAudioCtrl 0x0008)
        { base with mix := bankSet (bankSet base.mix 0x16 0xAC44) 0x1A 0x1F40 }) =
      some (0xBB80, 0xBB80, 0x1F40, 0x0008) := by
  decide

/-- M9, and P3 steps 5 and 6 (VRM clear). -/
theorem test_rates :
    field (fun s => s.mixAt 0x2C) (exec (.out16NamPcmFrontDacRate 0xAC44) base) = some 0xAC44 ∧
      field (fun s => s.mixAt 0x32) (exec (.out16NamPcmLrAdcRate 0xAC44) base) = some 0xAC44 ∧
      field (fun s => s.mixAt 0x34) (exec (.out16NamMicAdcRate 0x3E80)
        { base with mix := bankSet base.mix 0x15 0x0001 }) = some 0xBB80 := by
  decide

/-- M15. -/
theorem test_codec_reset :
    field (fun s => (s.regs.po, s.mixAt 0x00, s.globSta, s.inta)) (exec (.out16NamReset 0x1234)
      { withRegs .po running with globSta := 0x40 }) =
      some ({ StreamRegs.reset with cr := 0x10 }, 0, 0, false) := by
  decide

/-- M13, M14. -/
theorem test_mixer_unsupported :
    field State.result (exec (.in8NamUnsupported 0x02) base) = some (.byte 0xFF) ∧
      field State.result (exec (.in32NamUnsupported 0x00) base) = some (.dword 0xFFFFFFFF) ∧
      field State.result (exec (.in16NamOdd 1) base) = some (.word 0xFFFF) ∧
      field (fun s => s.regs.po.sr) (exec (.out8NamUnsupported 0 0) (withRegs .po running)) = some 0 := by
  decide

/-! ## Descriptors, transfer, scheduler -/

/-- F1: bits 1:0 of the address are cleared. -/
theorem test_fetch :
    (fetchBdle .pi { withRegs .pi { StreamRegs.reset with bdbar := 0x1000, civ := 2 } with
      mem := cells 0x1010 [3, 0x30, 0, 0, 0, 1, 0, 0x80] }).regs.pi =
      ⟨0x1000, 2, 0, 0x0001, 0x0100, 0, 0, true, 0x3000, 0x80000100⟩ := by
  decide

/-- F2 and F4: the index wraps, and the address wraps. -/
theorem test_advance_wraps :
    let s := { withRegs .pi { StreamRegs.reset with bdbar := 0xFFFFFFF8, civ := 0, piv := 1 } with
      mem := cells 0 [4, 0, 0, 0, 7, 0, 0, 0] }
    ((advance .pi s).regs.pi.bdAddr, (advance .pi s).regs.pi.picb) = (4, 7) ∧
      (advance .pi (withRegs .pi { StreamRegs.reset with civ := 30, piv := 31 })).regs.pi.piv = 0 := by
  decide

/-- T4: an odd ring gives whole samples. -/
theorem test_transfer_rounds :
    let s := { withRegs .pi { running with bdAddr := 0x5000 } with
      rt := base.rt.set .pi { StreamRuntime.reset with ring := [1, 2, 3, 4, 5, 6, 7] } }
    let t := transfer .pi 960 s
    (t.1.regs.pi.picb, t.1.regs.pi.bdAddr, t.1.rt.pi.ring, t.2) = (0x000D, 0x5006, [7], .ok) ∧
      t.1.mem = cells 0x5000 [1, 2, 3, 4, 5, 6] := by
  decide

/-- L1-5, with one sample left. -/
theorem test_transfer_underrun :
    let s := { withRegs .po { running with lvi := 0, picb := 1, cr := 0x05, bdCtl := 0x10 } with
      rt := base.rt.set .po { StreamRuntime.reset with ringCap := 4096 } }
    let t := transfer .po 0x40 s
    (t.1.regs.po.sr, t.1.regs.po.picb, t.1.regs.po.civ, t.1.regs.po.piv, t.2) = (0x0007, 0, 0, 1, .eof) ∧
      (t.1.globSta, t.1.inta) = (0x40, true) := by
  decide

/-- T12: the data addresses wrap. -/
theorem test_transfer_wraps :
    let s := { withRegs .pi { running with bdAddr := 0xFFFFFFFE } with
      rt := base.rt.set .pi { StreamRuntime.reset with ring := [1, 2, 3, 4] } }
    (transfer .pi 4 s).1.mem = [(0, 3), (1, 4), (0xFFFFFFFE, 1), (0xFFFFFFFF, 2)] := by
  decide

/-- C1, C2, C3, C4, C5. -/
theorem test_periods :
    bytesPerTickFor ⟨48000, 2, .output⟩ (timerHzFor Platform.suggested 48000) = 960 ∧
      bytesPerTickFor ⟨44100, 2, .output⟩ (timerHzFor Platform.suggested 44100) = 1764 ∧
      bytesPerTickFor ⟨22050, 1, .input⟩ 100 = 440 ∧
      ticksPerPeriodFor Platform.suggested (timerHzFor { Platform.suggested with timerHzOverride := some 300 } 44100) =
        3333333 ∧
      bytesPerTickFor ⟨0, 2, .output⟩ 100 = 0 := by
  decide

/-- C7. -/
theorem test_next_delay :
    nextDelay Platform.suggested { running with picb := 100 }
      { StreamRuntime.reset with config := ⟨48000, 2, .output⟩, bytesPerTick := 960 } = 1041666 := by
  decide

/-- C9: a tick with an inactive sink disarms. -/
theorem test_tick_inactive_sink :
    (tick .po { base with
      host := base.host.set .po { kindHost with active := false }
      rt := base.rt.set .po { StreamRuntime.reset with enabled := true, armed := true } }).rt.po.armed = false := by
  decide

/-- L1-8: bytes of the record of a stream, and its length. -/
theorem test_record_bytes :
    let s := { withRegs .po ⟨0x1000, 1, 1, 0x000F, 0, 2, 0x11, true, 0x3400, 0x80000200⟩ with
      globSta := 0x40, rt := base.rt.set .po { StreamRuntime.reset with enabled := true } }
    ((recordBytes (saveRecord s)).drop 30).take 21 =
        [0x00, 0x10, 0, 0, 1, 1, 0x0F, 0, 0, 0, 2, 0x11, 1, 0, 0x34, 0, 0, 0, 2, 0, 0x80] ∧
      (recordBytes (saveRecord s)).drop 328 = [0, 1, 0] ∧
      ((recordBytes (saveRecord s)).drop 196).take 2 = [0x84, 0x83] := by
  decide

set_option maxRecDepth 4096 in
/-- R237: a stream whose ENABLED byte is 2 is not enabled; R151: a descriptor whose flag byte is 2 is valid. By
notes/assumptions/18.md a semaphore byte of 2 leaves CAS free. -/
theorem test_record_foreign_bytes :
    (recordOfBytes (List.replicate 8 0 ++ [2] ++ List.replicate 319 0 ++ [2, 1, 0])).map
        (fun r => (r.cas, r.enabled.pi, r.enabled.po)) = some (0, false, true) ∧
      (streamOfBytes (List.replicate 12 0 ++ [2] ++ List.replicate 8 0) 0).bdValid = true := by
  decide

/-! ## Port accesses (R61; the bases are notes/assumptions/31.md's) -/

/-- R117: GLOB_STA at bus-master offset 0x30 reads 0x100. M4: mixer offset 0x7C reads the vendor. A port
outside both regions answers nothing. -/
theorem test_port_access :
    field State.result (runEvent (.access false .dword 0x130 0) base) = some (.dword 0x100) ∧
      field State.result (runEvent (.access false .word 0x7C 0) base) = some (.word 0x8384) ∧
      field State.result (runEvent (.access false .word 0x140 0) base) = some .none := by
  decide


/-! ## Witnesses: states and operands that meet the hypotheses of each statement, clause by clause -/

/-- A PCM Out that is enabled and armed. -/
def Tests.openStream : StreamRuntime :=
  { StreamRuntime.reset with enabled := true, armed := true, ringCap := 4096, bytesPerTick := 960 }

/-- `base` with an open PCM Out that runs. -/
def Tests.playing (r : StreamRegs) : State := { withRegs .po r with rt := base.rt.set .po openStream }

/-- `base` with a host that opens nothing and whose sinks are not active. -/
def Tests.shut (s : State) : State :=
  let h : HostAnswers := { kindHost with openOk := false, active := false }
  { s with host := ⟨h, h, h⟩ }

/-- `base` in `ASYNC_MODE` with a worker that is notified. -/
def Tests.workerRuns : State :=
  { base with
    cfg := { base.cfg with asyncMode := true }
    rt := base.rt.set .po { openStream with workerExists := true, workerSignalled := true, workerEnabled := true } }

/-- A completion is pending and contributes. -/
def Tests.interrupting : State := { playing { running with sr := 0x0008 } with globSta := 0x40 }

theorem test_witness_StatusWriteClearsRequestedBits :
    let v : Word := 0x000C &&& ~~~(0x000C &&& 0x001C)
    v &&& 0x001C ≠ (0x000C : Word) &&& 0x001C ∧ v &&& 0x001C = 0 ∧ (0x0003 : Word) &&& 0x001C = 0 := by
  decide

theorem test_witness_StatusControlPositionAreRead : RegsOk (base.regs.get .pi) ∧ RegsOk running := by
  decide

theorem test_witness_GlobalControlAndSemaphoreAccess : (0x39 : Dword) &&& 0x6 = 0 ∧ (0x2 : Dword) &&& 0x6 ≠ 0 := by
  decide

theorem test_witness_ControlResetResetsStream :
    (0x02 : Byte).getLsbD 1 = true ∧ (interrupting.regs.get .po).sr &&& 0x001C ≠ 0 ∧
      (base.regs.get .po).sr &&& 0x001C = 0 ∧ workerRuns.cfg.asyncMode = true := by
  decide

theorem test_witness_ControlStopHaltsStream : (0x1C : Byte).getLsbD 1 = false ∧ (0x1C : Byte).getLsbD 0 = false ∧
      workerRuns.cfg.asyncMode = true := by
  decide

theorem test_witness_ControlStartAdvancesAndEnables :
    (0x1D : Byte).getLsbD 1 = false ∧ (0x1D : Byte).getLsbD 0 = true ∧
      ((base.regs.get .po).sr.getLsbD 0 = true ∧ (base.rt.get .po).enabled = false ∧
        (base.host.get .po).openOk = true) ∧
      (((shut base).regs.get .po).sr.getLsbD 0 = true ∧ ((shut base).rt.get .po).enabled = false ∧
        ((shut base).host.get .po).openOk = false) ∧
      (((playing { running with sr := 0x0007 }).regs.get .po).sr.getLsbD 0 = true ∧
        ((playing { running with sr := 0x0007 }).rt.get .po).enabled = true) := by
  decide

theorem test_witness_ControlWriteWhileRunningOnlyStores :
    (0x01 : Byte).getLsbD 1 = false ∧ (0x01 : Byte).getLsbD 0 = true ∧
      ((playing running).regs.get .po).sr.getLsbD 0 = false := by
  decide

theorem test_witness_LastValidIndexWrite :
    ¬((base.regs.get .po).cr.getLsbD 0 = true ∧ (base.regs.get .po).sr.getLsbD 0 = true) ∧
      (let r := (playing { running with sr := 0x0007 }).regs.get .po
       r.cr.getLsbD 0 = true ∧ r.sr.getLsbD 0 = true) := by
  decide

theorem test_witness_MixerReadAndPlainStore : (127 : BitVec 7) ≠ 0 := by decide

theorem test_witness_ExtendedAudioControlDefaultsRates :
    (0x0008 : Word).getLsbD 0 = false ∧ (0x0001 : Word).getLsbD 0 = true ∧ (0x0001 : Word).getLsbD 3 = false ∧
      (0x0008 : Word).getLsbD 3 = true ∧ (0x0001 : Word).getLsbD (rateGate .mc) = false ∧
      (0x7F : BitVec 7) ≠ 0x15 ∧ (0x7F : BitVec 7) ≠ 0x16 ∧ (0x7F : BitVec 7) ≠ 0x19 ∧ (0x7F : BitVec 7) ≠ 0x1A := by
  decide

theorem test_witness_CodecResetResetsDevice :
    base.cfg.mixerTable = none ∧ { base.cfg with mixerTable := some Bank.zero }.mixerTable = some Bank.zero ∧
      (0x0C : BitVec 7) ≠ 0x0D ∧ workerRuns.cfg.asyncMode = true :=
  ⟨rfl, rfl, by decide, rfl⟩

theorem test_witness_RateWritesAreGated :
    (bankGet base.mix 0x15).getLsbD 0 = true ∧ (bankGet base.mix 0x15).getLsbD 3 = true ∧
      (bankGet Bank.zero 0x15).getLsbD 0 = false ∧ (bankGet Bank.zero 0x15).getLsbD 3 = false := by
  decide

/-- The four clauses: unchanged subset, emptied subset, an enabled bit, and LVBCI alone without its enable (N15). -/
theorem test_witness_UpdateStatusDecidesContribution :
    (0x0009 : Word) &&& 0x001C = 0x0008 &&& 0x001C ∧
      ((0x0001 : Word) &&& 0x001C ≠ 0x0008 &&& 0x001C ∧ (0x0001 : Word) &&& 0x001C = 0) ∧
      ((0x0008 : Word) &&& 0x001C ≠ 0 &&& 0x001C ∧ ((0x0008 : Word) &&& 0x001C) &&& 0x0008 ≠ 0 ∧
        running.cr.getLsbD 4 = true) ∧
      ((0x0004 : Word) &&& 0x001C ≠ 0x000C &&& 0x001C ∧ ((0x0004 : Word) &&& 0x001C) &&& 0x0008 = 0 ∧
        running.cr.getLsbD 2 = false) := by
  decide

theorem test_witness_WithdrawalNeedsAllBitsClear :
    let s := { interrupting with pending := [.port 0x9016 0x0008] }
    (∃ t, step s = .next t ∧ t.globSta &&& gsStream .po = 0) ∧ s.globSta &&& gsStream .po ≠ 0 ∧
      ∀ r, nextEvent s ≠ .agent (.load r) :=
  ⟨⟨_, rfl, by decide⟩, by decide, fun _ h => by cases h⟩

theorem test_witness_GuestMemoryReadsLastWrite :
    (base.isRam 0xFFFFFFFF = true ∧ ∀ c ∈ base.racing, c.1 ≠ 0xFFFFFFFF) ∧ (0 : Nat) ≠ 0xFFFFFFFF ∧
      State.isRam { base with cfg := { base.cfg with ram := [⟨0, 16⟩] } } 16 = false := by
  decide

theorem test_witness_CompletionSetsStatusAndAdvances :
    ((withRegs .po { running with lvi := 0 }).regs.get .po).civ =
        ((withRegs .po { running with lvi := 0 }).regs.get .po).lvi ∧
      ((withRegs .po running).regs.get .po).civ ≠ ((withRegs .po running).regs.get .po).lvi := by
  decide

theorem test_witness_TransferEntryTests :
    (base.regs.get .po).sr.getLsbD 0 = true ∧ (interrupting.regs.get .po).sr.getLsbD 3 = true := by
  decide

theorem test_witness_ZeroPositionStalls :
    let r := (withRegs .po { running with picb := 0 }).regs.get .po
    r.bdValid = true ∧ r.picb = 0 := by
  decide

/-- The four clauses, with 1, 2 and 0x20 bytes asked of 0x10 samples. -/
theorem test_witness_MoveLoopIsWhileLoop :
    moveSize .po 1 (playing running) = 0 ∧
      (moveSize .po 2 (playing running) = 2 ∧ ((moveChunk .po 2 (playing running)).regs.get .po).picb ≠ 0) ∧
      (moveSize .po 0x20 (playing running) = 0x20 ∧
        ((moveChunk .po 0x20 (playing running)).regs.get .po).picb = 0 ∧ running.civ ≠ running.lvi) ∧
      (moveSize .po 0x20 (playing { running with lvi := 0 }) = 0x20 ∧
        ((moveChunk .po 0x20 (playing { running with lvi := 0 })).regs.get .po).picb = 0) := by
  decide

theorem test_witness_TransferEofIffUnderrun :
    (transfer .po 0x20 (playing { running with lvi := 0 })).2 = .eof ∧
      (transfer .po 2 (playing { running with lvi := 0 })).2 = .ok := by
  decide

theorem test_witness_TransferMemoryFrame :
    let r := (withRegs .pi running).regs.get .pi
    StreamId.po.isOut = true ∧ r.bdValid = true ∧ 2 ≤ 2 * r.picb.toNat ∧
      ∀ i < 2, (r.bdAddr + BitVec.ofNat 32 i).toNat ≠ 0x2002 := by
  decide

theorem test_witness_OutputMovesMemoryIntoRing :
    let s := playing running
    s.regs.po.sr.getLsbD 0 = false ∧ s.regs.po.sr.getLsbD 3 = false ∧ s.regs.po.bdValid = true ∧
      2 < 2 * s.regs.po.picb.toNat ∧ 2 % 2 = 0 ∧ 2 ≤ s.rt.po.ringCap - s.rt.po.ring.length ∧ 0 < 2 := by
  decide

theorem test_witness_EnableOpensAndDisableCloses :
    ((playing running).rt.get .po).enabled = true ∧
      ((base.rt.get .po).enabled = false ∧ (base.host.get .po).openOk = true) ∧
      (((shut base).rt.get .po).enabled = false ∧ ((shut base).host.get .po).openOk = false) := by
  decide

theorem test_witness_ReopenRestartsHostStream :
    (base.rt.get .po).enabled = false ∧
      (((playing running).rt.get .po).enabled = true ∧ ((playing running).host.get .po).openOk = true) ∧
      (((shut (playing running)).rt.get .po).enabled = true ∧
        ((shut (playing running)).host.get .po).openOk = false) := by
  decide

theorem test_witness_PeriodQuantities :
    { Platform.suggested with timerHzOverride := some 300 }.timerHzOverride = some 300 ∧
      (Platform.suggested.timerHzOverride = none ∧ 44100 < 44101 ∧ 44100 ≤ 44100) ∧ Platform.suggested.ok = true ∧
      0 < (streamConfigOf base.mix .mc).channels ∧ (streamConfigOf Bank.zero .mc).rate = 0 := by
  decide

theorem test_witness_TickRunsAndRearms :
    ¬((base.rt.get .po).enabled = true ∧ (base.rt.get .po).armed = true ∧ (base.rt.get .po).deadline ≤ base.vnow) ∧
      (let s := playing running
       ((s.rt.get .po).enabled = true ∧ (s.rt.get .po).armed = true ∧ (s.rt.get .po).deadline ≤ s.vnow) ∧
         (s.host.get .po).active = true ∧ ((shut s).host.get .po).active = false) ∧
      { Platform.suggested with suggestedDelay := false }.suggestedDelay = false ∧
      Platform.suggested.suggestedDelay = true ∧
      (let rt := { openStream with config := ⟨48000, 2, .output⟩ }
       (0 < min rt.bytesPerTick (2 * running.picb.toNat) ∧ 0 < rt.config.rate) ∧
         ¬(0 < min rt.bytesPerTick (2 * StreamRegs.reset.picb.toNat) ∧ 0 < rt.config.rate)) := by
  decide

theorem test_witness_HostSideMovesWhatSinkTakes :
    StreamId.pi ≠ .po ∧ StreamId.mc ≠ .po ∧ base.cfg.asyncMode = false ∧
      (workerRuns.cfg.asyncMode = true ∧ (workerRuns.rt.get .po).workerExists = true ∧
        (workerRuns.rt.get .po).workerSignalled = true ∧ (workerRuns.rt.get .po).workerShutdown = false ∧
        (workerRuns.rt.get .po).workerEnabled = true) ∧
      (workerRuns.rt.get .pi).workerExists = false ∧
      ((shutdownWorker .po workerRuns).cfg.asyncMode = true ∧
        ((shutdownWorker .po workerRuns).rt.get .po).workerExists = true ∧
        ((shutdownWorker .po workerRuns).rt.get .po).workerShutdown = true) ∧
      (let s := workerStep .po workerRuns
       s.cfg.asyncMode = true ∧ (s.rt.get .po).workerSignalled = false ∧ (s.rt.get .po).workerShutdown = false) := by
  decide

theorem test_witness_SaveThenLoadRestoresRegisters :
    (base.host.get .po).openOk = true ∧ ((playing running).rt.get .po).enabled = true := by
  decide

theorem test_witness_DecodeEncodeAgree :
    (Instr.out8NabmPoCr 0x1F).WellFormed ∧ (Instr.in8NabmUnsupported 0x3F).WellFormed ∧
      (Instr.out32NabmUnsupported 0x04 0xFFFFFFFF).WellFormed ∧ (Instr.out16NamReg 0x7F 0).WellFormed := by
  decide

theorem test_witness_DecodedWordIsItsOwn : decode 0x801B 0xFF = .ok (.out8NabmPoCr 0xFF) := by decide

theorem test_witness_StepRunsNextEvent :
    ({ base with pending := [.port 0x801B 0x11] } : State).pending = .port 0x801B 0x11 :: [] ∧
      decode 0x801B 0x11 = .ok (.out8NabmPoCr 0x11) ∧
      ({ base with pending := [.agent (.tick .mc)] } : State).pending = .agent (.tick .mc) :: [] := by
  decide

/-- The port accesses of the same statement: the last offset of each region at the bases of reset, and a port beside them. -/
theorem test_witness_StepRunsNextEvent_ports :
    let at_ (port : Nat) : State := { base with pending := [.access false .word port 0] }
    ((at_ 0x13F).pending = .access false .word (base.cfg.nabmBase + (0x3F : BitVec 6).toNat) 0 :: [] ∧
        decode (encodeWord false false AccessWidth.word.code 0x3F) 0 = .ok (.in16NabmUnsupported 0x3F)) ∧
      (base.cfg.ok = true ∧ (at_ 0xFE).pending = .access false .word (base.cfg.namBase + (0xFE : BitVec 8).toNat) 0 :: [] ∧
        decode (encodeWord false true AccessWidth.word.code 0xFE) 0 = .ok (.in16NamReg 0x7F)) ∧
      (¬(base.cfg.nabmBase ≤ 0x140 ∧ 0x140 < base.cfg.nabmBase + 64) ∧
        ¬(base.cfg.namBase ≤ 0x140 ∧ 0x140 < base.cfg.namBase + 256)) := by
  decide

theorem test_witness_StepIsRefusedOnlyForBadWords :
    step { base with pending := [.port 0x3000 0] } = .refused (.noTransaction .widthField) := rfl

theorem test_witness_StepKeepsMachineGood :
    let s := { playing running with pending := [.agent (.tick .po)] }
    MachineOk s ∧ ∃ t, step s = .next t :=
  ⟨by decide, _, rfl⟩

/-- A good record of a stream in mid-descriptor, loaded into a good state. -/
theorem test_witness_StepKeepsGuestRegistersGood :
    let r := saveRecord interrupting
    let s := { interrupting with pending := [.agent (.load r)] }
    GuestOk s ∧ loadsGoodRecord (nextEvent s) ∧ ∃ t, step s = .next t := by
  refine ⟨⟨by decide, by decide, by decide, by decide⟩, ?_, _, rfl⟩
  exact show RecordOk _ from ⟨by decide, by decide, by decide, by decide⟩

theorem test_witness_OnlyInputTicksAndStoresWriteMemory :
    let s := { playing running with pending := [.agent (.tick .po)] }
    mayWriteMemory (nextEvent s) = false ∧ ∃ t, step s = .next t :=
  ⟨by decide, _, rfl⟩

theorem test_witness_ClockNeverGoesBack :
    ∃ t, step { base with pending := [.agent (.clock 5)] } = .next t ∧ t.vnow = 5 :=
  ⟨_, rfl, by decide⟩

theorem test_witness_DeadlineIsNeverEarly :
    ∃ t, runEvent (.agent (.tick .po)) { playing StreamRegs.reset with vnow := 7 } = .next t ∧
      (t.rt.get .po).deadline ≠ ((playing StreamRegs.reset).rt.get .po).deadline :=
  ⟨_, rfl, by decide⟩

theorem test_witness_TicksLeaveOtherStreamsAlone : StreamId.pi ≠ .po := by decide

/-- Due, not due, and an input, with BCIS set. -/
theorem test_witness_UnacknowledgedCompletionStopsTicks :
    ((interrupting.regs.get .po).sr.getLsbD 3 = true ∧ (interrupting.rt.get .po).enabled = true ∧
        (interrupting.rt.get .po).armed = true ∧ (interrupting.rt.get .po).deadline ≤ interrupting.vnow) ∧
      (let s := withRegs .po { running with sr := 0x0008 }
       (s.regs.get .po).sr.getLsbD 3 = true ∧ (s.rt.get .po).enabled = false) ∧
      ((withRegs .pi { running with sr := 0x0008 }).regs.get .pi).sr.getLsbD 3 = true ∧ StreamId.pi ≠ .po := by
  decide

theorem test_witness_AcknowledgeDropsInterrupt :
    (interrupting.regs.get .po).sr &&& 0x001C ≠ 0 ∧ ∀ j, j ≠ StreamId.po → interrupting.globSta &&& gsStream j = 0 := by
  refine ⟨by decide, fun j h => ?_⟩
  cases j <;> first | exact absurd rfl h | decide
end

section
/-!
PROOFS. The device reset of R270: the host calls it makes and the codec bank it leaves, and the write of the codec Reset
register (R200), which runs it.
-/

namespace Sys2Proof.Machine

open Sys2Proof

/-! ## The record select 0: the microphone on both sides (R205, R212) -/

@[simp] theorem recordLeft_zero : recordLeft 0#16 = .mic := by decide
@[simp] theorem recordRight_zero : recordRight 0#16 = .mic := by decide
@[simp] theorem recordSelectValue_zero : recordSelectValue 0#16 = 0#16 := by decide

/-! ## Host calls -/

@[simp] theorem disable_hostLog (k : StreamId) (s : State) :
    (disable k s).hostLog = .closeStream k :: s.hostLog := rfl

@[simp] theorem streamReset_hostLog (k : StreamId) (s : State) :
    (streamReset k s).hostLog = .closeStream k :: s.hostLog := by
  simp [streamReset]

@[simp] theorem sendVolume_hostLog (c : VolumeControl) (off : Nat) (s : State) :
    (sendVolume c off s).hostLog =
      .setVolume c (volumeOf s.cfg.volMax (bankGet s.mix (mixReg off))) :: s.hostLog := rfl

@[simp] theorem sendVolumes_hostLog (s : State) :
    (sendVolumes s).hostLog =
      .setVolume .front (volumeOf s.cfg.volMax (bankGet s.mix 0x0C)) ::
      .setVolume .lineIn (volumeOf s.cfg.volMax (bankGet s.mix 0x08)) ::
      .setVolume .micIn (volumeOf s.cfg.volMax (bankGet s.mix 0x07)) ::
      .setVolume .master (volumeOf s.cfg.volMax (bankGet s.mix 0x01)) :: s.hostLog := by
  simp [sendVolumes, mixReg]

@[simp] theorem selectRecordSource_hostLog (d : Word) (s : State) :
    (selectRecordSource d s).hostLog = .setRecordingSource (recordLeft d) (recordRight d) :: s.hostLog := rfl

/-! ## The codec bank -/

@[simp] theorem selectRecordSource_mix (d : Word) (s : State) :
    (selectRecordSource d s).mix = bankSet s.mix 0x0D (recordSelectValue d) := rfl

/-- The suggested table gives each register its value by offset (R224). -/
theorem bankGet_mixerReset (m : CodecModel) (q : BitVec 7) :
    bankGet (mixerReset m) q = mixerResetAt (2 * q.toNat) m := by
  simp [bankGet, mixerReset]

/-- The suggested record select of every codec is 0 (R224). -/
theorem mixerResetAt_recordSelect (m : CodecModel) : mixerResetAt 0x1A m = 0 := by
  cases m <;> rfl

/-- A reset loads the platform's table and then selects the microphone (R224, R270). -/
theorem deviceReset_mix (s : State) : (deviceReset s).mix = bankSet (mixerResetFor s.cfg) 0x0D 0 := by
  simp [deviceReset]

theorem deviceReset_recordSelect (s : State) : bankGet (deviceReset s).mix 0x0D = 0 := by
  simp [deviceReset_mix, bankGet_bankSet]

theorem deviceReset_mix_of_ne (s : State) {q : BitVec 7} (hq : q ≠ 0x0D) :
    bankGet (deviceReset s).mix q = bankGet (mixerResetFor s.cfg) q := by
  rw [deviceReset_mix, bankGet_bankSet, if_neg hq.symm]

/-- The suggested table has a record select of 0 itself, so on such a platform every register holds its table value. -/
theorem deviceReset_mix_suggested {s : State} (h : s.cfg.mixerTable = none) (q : BitVec 7) :
    bankGet (deviceReset s).mix q = mixerResetAt (2 * q.toNat) s.cfg.codec := by
  by_cases hq : q = 0x0D
  · subst hq
    exact (deviceReset_recordSelect s).trans (mixerResetAt_recordSelect s.cfg.codec).symm
  · rw [deviceReset_mix_of_ne s hq, mixerResetFor, h]
    exact bankGet_mixerReset s.cfg.codec q

theorem deviceReset_mix_platform {s : State} {b : Bank} (h : s.cfg.mixerTable = some b) {q : BitVec 7}
    (hq : q ≠ 0x0D) : bankGet (deviceReset s).mix q = bankGet b q := by
  rw [deviceReset_mix_of_ne s hq, mixerResetFor, h, Option.getD_some]

/-! ## The device reset -/

/-- The calls of a device reset in the order they are made; the log is newest first (R224, R270). -/
theorem deviceReset_hostLog (s : State) :
    (deviceReset s).hostLog =
      [.closeStream .pi, .closeStream .po, .closeStream .mc, .setRecordingSource .mic .mic,
        .setVolume .master (volumeOf s.cfg.volMax (bankGet (deviceReset s).mix 0x01)),
        .setVolume .micIn (volumeOf s.cfg.volMax (bankGet (deviceReset s).mix 0x07)),
        .setVolume .lineIn (volumeOf s.cfg.volMax (bankGet (deviceReset s).mix 0x08)),
        .setVolume .front (volumeOf s.cfg.volMax (bankGet (deviceReset s).mix 0x0C))].reverse ++ s.hostLog := by
  simp [deviceReset]

theorem deviceReset_rt_eq_disable (s : State) (k : StreamId) :
    (deviceReset s).rt.get k = (disable k s).rt.get k := by
  rw [deviceReset_rt, disable_rt, Tri.get_set_self]

/-- In ASYNC_MODE a disable disables the worker too (R187). -/
theorem closeRuntime_workerEnabled {p : Platform} (h : p.asyncMode = true) (rt : StreamRuntime) :
    (closeRuntime p rt).workerEnabled = false := by
  simp [closeRuntime, h, workerDisable]

/-- The interrupt line follows GLOB_STA, so a reset drops it (R34, R171). -/
theorem deviceReset_inta (s : State) : (deviceReset s).inta = false := by
  simp [State.inta]

theorem deviceReset_keepsOutside (s : State) : KeepsOutside s (deviceReset s) :=
  ⟨deviceReset_mem s, deviceReset_racing s, deviceReset_vnow s, deviceReset_cfg s, deviceReset_pending s,
    deviceReset_host s⟩

/-- A GLOB_STA read after a reset shows S0CR alone (R117). -/
theorem exec_globStaRead_of_zero {t : State} (h : t.globSta = 0) :
    exec .in32NabmGlobSta t = .next { t with result := .dword 0x00000100 } := by
  have hread : globStaRead t.globSta = 0x00000100 := by rw [h]; rfl
  show Host.Outcome.next (t.answer (.dword (globStaRead t.globSta))) = _
  rw [hread]
  rfl

theorem exec_out16NamReset (d : Word) (s : State) :
    exec (.out16NamReset d) s = .next (deviceReset s.freeSemaphore) := rfl

/-- Settles O24: the write runs the device reset, whose every part is a lemma above. -/
theorem codecResetResetsDevice : Obligations.CodecResetResetsDevice := by
  intro d s
  refine ⟨_, exec_out16NamReset d s, fun k => ?_, deviceReset_globCnt _, deviceReset_globSta _, deviceReset_cas _,
    deviceReset_inta _, exec_globStaRead_of_zero (deviceReset_globSta _), fun h => deviceReset_mix_suggested h,
    fun b h q hq => deviceReset_mix_platform h hq, deviceReset_recordSelect _,
    ⟨_, deviceReset_hostLog _, List.reverse_perm _⟩, deviceReset_keepsOutside _, deviceReset_result _,
    deviceReset_draws _⟩
  obtain ⟨henabled, harmed, hring, -⟩ := closeRuntime_spec s.cfg (s.rt.get k)
  have hrt : (deviceReset s.freeSemaphore).rt.get k = closeRuntime s.cfg (s.rt.get k) := deviceReset_rt _ k
  refine ⟨deviceReset_regs _ k, deviceReset_rt_eq_disable _ k, ?_⟩
  rw [hrt]
  exact ⟨henabled, harmed, hring, fun h => closeRuntime_workerEnabled h _⟩

end Sys2Proof.Machine
end

section
/-!
PROOFS. The packed dword reads (R83, R106, R121): shifting and joining registers is concatenating their bytes.
-/

namespace Sys2Proof.Machine

open Sys2Proof

/-- Three fields shifted to their places and joined by OR are their concatenation, the last one lowest (R60, R83). Bit `i`
lies in exactly one field. -/
theorem shiftLeft_or_eq_append {u v w : Nat} (x : BitVec u) (y : BitVec v) (z : BitVec w) :
    (x.setWidth (u + v + w) <<< (v + w)) ||| (y.setWidth (u + v + w) <<< w) ||| z.setWidth (u + v + w) =
      x ++ y ++ z := by
  refine BitVec.eq_of_getLsbD_eq fun i hi => ?_
  simp only [BitVec.getLsbD_or, BitVec.getLsbD_shiftLeft, BitVec.getLsbD_setWidth, BitVec.getLsbD_append]
  by_cases hz : i < w
  · have hy : i < v + w := by omega
    simp [hi, hz, hy]
  · have hzero : z.getLsbD i = false := BitVec.getLsbD_of_ge z i (by omega)
    by_cases hy : i - w < v
    · have hx : i < v + w := by omega
      have hyi : i - w < u + v + w := by omega
      simp [hi, hz, hy, hx, hzero, hyi]
    · have hyzero : y.getLsbD (i - w) = false := BitVec.getLsbD_of_ge y (i - w) (by omega)
      have hx : ¬i < v + w := by omega
      have hxi : i - (v + w) < u + v + w := by omega
      have hsub : i - w - v = i - (v + w) := by omega
      simp [hi, hz, hy, hx, hzero, hyzero, hxi, hsub]

/-- An index register read as a byte and then widened is the register widened: its upper bits are 0. -/
theorem index_setWidth_byte (i : BitVec 5) : (i.setWidth 8).setWidth 32 = i.setWidth 32 :=
  BitVec.setWidth_setWidth (by omega)

/-- SR at offset 6, LVI at 5 and CIV at 4 of the stream's block (R81, R106). -/
theorem packIndex_eq_append (r : StreamRegs) : packIndex r = r.sr ++ r.lvi.setWidth 8 ++ r.civ.setWidth 8 := by
  rw [← shiftLeft_or_eq_append, index_setWidth_byte, index_setWidth_byte]
  rfl

/-- CR at offset 11, PIV at 10 and PICB at 8 of the stream's block (R81, R121). -/
theorem packPosition_eq_append (r : StreamRegs) : packPosition r = r.cr ++ r.piv.setWidth 8 ++ r.picb := by
  rw [← shiftLeft_or_eq_append, index_setWidth_byte]
  rfl

theorem exec_indexRead (k : StreamId) (s : State) : exec (Port.indexRead k) s = .next (readIndices k s) := by
  cases k <;> rfl

theorem exec_positionRead (k : StreamId) (s : State) :
    exec (Port.positionRead k) s = .next (readPosition k s) := by
  cases k <;> rfl

/-- Settles O4: the two reads answer `packIndex` and `packPosition`, which are concatenations of the stream's bytes. -/
theorem packedReadsMatchByteLayout : Obligations.PackedReadsMatchByteLayout := fun k s =>
  ⟨exec_indexRead k s, exec_positionRead k s, packIndex_eq_append (s.regs.get k), packPosition_eq_append (s.regs.get k)⟩

end Sys2Proof.Machine
end

section
/-!
PROOFS. What a transaction of the bus-master region runs, for each stream at once (R81, R100), and the accesses of one
register that take no more than that (R101 to R125).
-/

namespace Sys2Proof.Machine

open Sys2Proof

/-! ## Dispatch -/

theorem exec_bdbarRead (k : StreamId) (s : State) : exec (Port.bdbarRead k) s = .next (readBdbar k s) := by
  cases k <;> rfl

theorem exec_bdbarWrite (k : StreamId) (d : Dword) (s : State) :
    exec (Port.bdbarWrite k d) s = .next (writeBdbar k d s) := by
  cases k <;> rfl

theorem exec_civRead (k : StreamId) (s : State) : exec (Port.civRead k) s = .next (readCiv k s) := by
  cases k <;> rfl

theorem exec_civWrite (k : StreamId) (d : Byte) (s : State) : exec (Port.civWrite k d) s = .next s := by
  cases k <;> rfl

theorem exec_lviRead (k : StreamId) (s : State) : exec (Port.lviRead k) s = .next (readLvi k s) := by
  cases k <;> rfl

theorem exec_lviWrite (k : StreamId) (d : Byte) (s : State) :
    exec (Port.lviWrite k d) s = .next (writeLvi k d s) := by
  cases k <;> rfl

theorem exec_srRead (k : StreamId) (s : State) : exec (Port.srRead k) s = .next (readSr k s) := by
  cases k <;> rfl

theorem exec_srByteRead (k : StreamId) (s : State) : exec (Port.srByteRead k) s = .next (readSrByte k s) := by
  cases k <;> rfl

theorem exec_srByteWrite (k : StreamId) (d : Byte) (s : State) :
    exec (Port.srByteWrite k d) s = .next (writeSrByte k d s) := by
  cases k <;> rfl

theorem exec_srWrite (k : StreamId) (d : Word) (s : State) :
    exec (Port.srWrite k d) s = .next (writeSr k d s) := by
  cases k <;> rfl

theorem exec_picbRead (k : StreamId) (s : State) : exec (Port.picbRead k) s = .next (readPicb k s) := by
  cases k <;> rfl

theorem exec_picbWrite (k : StreamId) (d : Word) (s : State) : exec (Port.picbWrite k d) s = .next s := by
  cases k <;> rfl

theorem exec_pivRead (k : StreamId) (s : State) : exec (Port.pivRead k) s = .next (readPiv k s) := by
  cases k <;> rfl

theorem exec_pivWrite (k : StreamId) (d : Byte) (s : State) : exec (Port.pivWrite k d) s = .next s := by
  cases k <;> rfl

theorem exec_crRead (k : StreamId) (s : State) : exec (Port.crRead k) s = .next (readCr k s) := by
  cases k <;> rfl

theorem exec_crWrite (k : StreamId) (d : Byte) (s : State) :
    exec (Port.crWrite k d) s = .next (writeCr k d s) := by
  cases k <;> rfl

/-! ## Masks -/

/-- Clearing requested bits of one mask keeps the bits of another that shares none with it. -/
theorem and_not_and_of_disjoint {w : Nat} (x d : BitVec w) {m c : BitVec w} (h : m &&& c = 0#w) :
    (x &&& ~~~(d &&& m)) &&& c = x &&& c := by
  refine BitVec.eq_of_getLsbD_eq fun i hi => ?_
  have hbit : m.getLsbD i = true → c.getLsbD i = false := by simpa using congrArg (·.getLsbD i) h
  simp only [BitVec.getLsbD_and, BitVec.getLsbD_not, hi, decide_true, Bool.true_and]
  cases hm : m.getLsbD i with
  | false => simp
  | true => simp [hbit hm]

/-- Setting requested bits of one mask keeps the bits of another that shares none with it. -/
theorem or_and_and_of_disjoint {w : Nat} (x d : BitVec w) {m c : BitVec w} (h : m &&& c = 0#w) :
    (x ||| (d &&& m)) &&& c = x &&& c := by
  rw [BitVec.and_or_distrib_right, BitVec.and_assoc, h, BitVec.and_zero, BitVec.or_zero]

/-- Where the bits of a mask are 0, so are those of any part of it. -/
theorem and_eq_zero_of_subset {w : Nat} {x m c : BitVec w} (h : x &&& m = 0#w) (hc : m &&& c = c) : x &&& c = 0#w := by
  rw [← hc, ← BitVec.and_assoc, h, BitVec.zero_and]

/-! ## Reads and stores -/

/-- Settles O1: the access runs `readBdbar`. -/
theorem bdbarReadReturnsBase : Obligations.BdbarReadReturnsBase := exec_bdbarRead

/-- Settles O2: the access runs `writeBdbar`. -/
theorem bdbarWriteClearsLowBits : Obligations.BdbarWriteClearsLowBits := exec_bdbarWrite

/-- A byte that holds an index is below 32 (R24 to R26). -/
theorem index_byte_le (i : BitVec 5) : (i.setWidth 8).toNat ≤ 31 := by
  rw [BitVec.toNat_setWidth_of_le (by omega)]
  omega

/-- Settles O3: the accesses run the three index reads, and an index has five bits. -/
theorem indexBytesAreRead : Obligations.IndexBytesAreRead := fun k s =>
  ⟨exec_civRead k s, exec_lviRead k s, exec_pivRead k s, index_byte_le _⟩

/-- Settles O5: the low byte of SR is a truncation, and the byte write is `writeSr` of the zero-extended data. -/
theorem statusByteAccess : Obligations.StatusByteAccess := by
  intro k s
  refine ⟨?_, fun d => ?_⟩
  · rw [exec_srByteRead, readSrByte, ← BitVec.setWidth_eq_extractLsb' (by omega)]
    rfl
  · rw [exec_srByteWrite, exec_srWrite]
    rfl

/-- Settles O7: the accesses run the three reads; the reserved bits lie within those that `RegsOk` has at 0. -/
theorem statusControlPositionAreRead : Obligations.StatusControlPositionAreRead := by
  intro k s
  refine ⟨exec_srRead k s, fun hok => ?_, exec_picbRead k s, exec_crRead k s, fun hok => ?_⟩
  · obtain ⟨-, hsr, -⟩ := hok
    exact and_eq_zero_of_subset hsr (by decide)
  · obtain ⟨-, -, hcr, -⟩ := hok
    exact hcr

/-- Settles O8: each of the writes is ignored. -/
theorem readOnlyRegistersIgnoreWrites : Obligations.ReadOnlyRegistersIgnoreWrites := fun k d w s =>
  ⟨exec_civWrite k d s, exec_pivWrite k d s, exec_picbWrite k w s, rfl⟩

/-! ## Global registers -/

theorem exec_globCntWrite (d : Dword) (s : State) :
    exec (.out32NabmGlobCnt d) s = .next (writeGlobCnt d s) := rfl

theorem globCntResets_iff (d : Dword) : globCntResets d = true ↔ d &&& 0x6 ≠ 0 := bne_iff_ne

theorem writeGlobCnt_of_stores {d : Dword} (h : d &&& 0x6 = 0) (s : State) :
    writeGlobCnt d s = { s with globCnt := d &&& 0x3F } :=
  if_neg fun hreset => (globCntResets_iff d).1 hreset h

theorem writeGlobCnt_of_resets {d : Dword} (h : d &&& 0x6 ≠ 0) (s : State) : writeGlobCnt d s = s :=
  if_pos ((globCntResets_iff d).2 h)

/-- Settles O9: a write is stored or ignored by the reset bits of its data. -/
theorem globalControlAndSemaphoreAccess : Obligations.GlobalControlAndSemaphoreAccess := by
  intro d s
  refine ⟨rfl, fun h => ?_, fun h => ?_, rfl⟩
  · rw [exec_globCntWrite, writeGlobCnt_of_stores h]
  · rw [exec_globCntWrite, writeGlobCnt_of_resets h]

/-- Of the bits that are neither cleared by writing nor read-only, GLOB_STA has 17:16 (R33, R124). -/
theorem globStaWritten_eq (g d : Dword) :
    globStaWritten g d = (g &&& ~~~(d &&& 0x8C01)) ||| (d &&& 0x30000) := by
  rw [globStaWritten, BitVec.and_assoc]
  rfl

/-- A write changes no contribution bit (R124). -/
theorem globStaWritten_contributions (g d : Dword) : globStaWritten g d &&& 0xE0 = g &&& 0xE0 := by
  rw [globStaWritten_eq, or_and_and_of_disjoint _ _ (by decide), and_not_and_of_disjoint _ _ (by decide)]

theorem writeGlobSta_inta (d : Dword) (s : State) : (writeGlobSta d s).inta = s.inta := by
  show (globStaWritten s.globSta d &&& 0xE0 != 0) = (s.globSta &&& 0xE0 != 0)
  rw [globStaWritten_contributions]

/-- Settles O10: the accesses run `readGlobSta` and `writeGlobSta`; a write leaves bits 7:5, which drive the line. -/
theorem globalStatusAccess : Obligations.GlobalStatusAccess := by
  intro d s
  refine ⟨rfl, writeGlobSta d s, rfl, ?_, writeGlobSta_inta d s⟩
  rw [writeGlobSta, globStaWritten_eq]

/-- Settles O11: every unsupported access is one arm that answers all ones or leaves the state. -/
theorem unsupportedAccessHasNoEffect : Obligations.UnsupportedAccessHasNoEffect := fun _ _ _ _ _ _ _ =>
  ⟨rfl, rfl, rfl, rfl, rfl, rfl, rfl, rfl, rfl, rfl, rfl, rfl⟩

/-! ## Status writes -/

/-- Every SR bit is read-only or cleared by writing 1, so a write sets none and clears the requested ones (R27, R116). -/
theorem srWritten_eq (sr d : Word) : srWritten sr d = sr &&& ~~~(d &&& 0x001C) := by
  have hmask : ~~~(srRO ||| srW1C) = 0#16 := by decide
  rw [srWritten, hmask, BitVec.and_zero, BitVec.or_zero]
  rfl

/-- Interrupt bits that stay as they are leave the contribution (R170). -/
theorem contribution_of_same (k : StreamId) {sr v : Word} (h : v &&& 0x001C = sr &&& 0x001C) (cr : Byte) (g : Dword) :
    contribution k sr v cr g = g := if_pos h

/-- The last interrupt bit gone withdraws the contribution (R170). -/
theorem contribution_of_cleared (k : StreamId) {sr v : Word} (hne : v &&& 0x001C ≠ sr &&& 0x001C)
    (hv : v &&& 0x001C = 0) (cr : Byte) (g : Dword) : contribution k sr v cr g = g &&& ~~~(gsStream k) :=
  (if_neg hne).trans (if_pos hv)

/-- `UpdateStatus` with the status that SR already holds changes nothing (R170). -/
theorem updateStatus_self (k : StreamId) (s : State) : updateStatus k (s.regs.get k).sr s = s := by
  have hset : s.regs.set k { s.regs.get k with sr := (s.regs.get k).sr } = s.regs := Tri.set_get s.regs k
  simp only [updateStatus, contribution_of_same k rfl, hset]

/-- Settles O6: `writeSr` is `UpdateStatus` of SR with the requested bits cleared, and the mask 0x1C is disjoint from
the other bits. -/
theorem statusWriteClearsRequestedBits : Obligations.StatusWriteClearsRequestedBits := by
  intro k d s r v
  refine ⟨?_, updateStatus_regs k v s, ⟨?_, ?_⟩, and_not_and_of_disjoint r.sr d (by decide), fun hne hv => ?_,
    fun hd => ?_⟩
  · rw [exec_srWrite, writeSr, srWritten_eq]
  · simp [v]
  · simp [v]
  · rw [updateStatus_globSta, contribution_of_cleared k hne hv]
  · have hv : v = r.sr := by
      simp only [v, hd]
      exact BitVec.and_allOnes
    rw [hv]
    exact updateStatus_self k s

end Sys2Proof.Machine
end

section
/-!
PROOFS. The writes that start, stop and reset a stream: LVI (R108) and the control write in its cases R111 to R113.
-/

namespace Sys2Proof.Machine

open Sys2Proof

/-! ## Frames -/

/-- A state that differs from another at stream `k` only keeps the other streams. -/
theorem keepsOtherStreams_of_set {k : StreamId} {s t : State} {r : StreamRegs} {rt : StreamRuntime}
    (hregs : t.regs = s.regs.set k r) (hrt : t.rt = s.rt.set k rt) : KeepsOtherStreams k s t := by
  intro j hj
  rw [hregs, hrt]
  exact ⟨Tri.get_set_ne _ _ hj, Tri.get_set_ne _ _ hj⟩

theorem enable_keepsGlobals (k : StreamId) (s : State) : KeepsGlobals s (enable k s) :=
  ⟨enable_globCnt k s, enable_globSta k s, enable_cas k s, enable_mix k s⟩

theorem enable_keepsOutside (k : StreamId) (s : State) : KeepsOutside s (enable k s) :=
  ⟨enable_mem k s, enable_racing k s, enable_vnow k s, enable_cfg k s, enable_pending k s, enable_host k s⟩

/-! ## Which case a control write is -/

theorem writeCr_of_reset {d : Byte} (hrr : d.getLsbD 1 = true) (k : StreamId) (s : State) :
    writeCr k d s = streamReset k s := if_pos hrr

theorem writeCr_of_stop {d : Byte} (hrr : d.getLsbD 1 = false) (hrun : d.getLsbD 0 = false) (k : StreamId) (s : State) :
    writeCr k d s = stopStream k d s := by
  have hreset : crResets d = false := hrr
  have hruns : crRuns d = false := hrun
  simp [writeCr, hreset, hruns]

theorem writeCr_of_start {d : Byte} (hrr : d.getLsbD 1 = false) (hrun : d.getLsbD 0 = true) {k : StreamId} {s : State}
    (hdch : (s.regs.get k).sr.getLsbD 0 = true) : writeCr k d s = startStream k d s := by
  have hreset : crResets d = false := hrr
  have hruns : crRuns d = true := hrun
  have hhalted : isHalted (s.regs.get k).sr = true := hdch
  simp [writeCr, hreset, hruns, hhalted]

/-! ## Disable: reset and stop -/

/-- What `Disable` leaves of a stream's runtime state (R187). -/
theorem disable_rt_spec (k : StreamId) (s : State) :
    ((disable k s).rt.get k).enabled = false ∧ ((disable k s).rt.get k).armed = false ∧
      ((disable k s).rt.get k).ring = [] ∧
      (s.cfg.asyncMode = true → ((disable k s).rt.get k).workerEnabled = false) := by
  rw [disable_rt, Tri.get_set_self]
  obtain ⟨henabled, harmed, hring, -⟩ := closeRuntime_spec s.cfg (s.rt.get k)
  exact ⟨henabled, harmed, hring, fun h => closeRuntime_workerEnabled h _⟩

/-- Settles O12: the write is `StreamReset`, whose status 0x0001 has no interrupt bit. -/
theorem controlResetResetsStream : Obligations.ControlResetResetsStream := by
  intro k d s hrr r
  obtain ⟨henabled, harmed, hring, hworker⟩ := disable_rt_spec k s
  refine ⟨streamReset k s, ?_, streamReset_regs k s, rfl, henabled, harmed, hring, hworker, fun hint => ?_,
    fun hint => ?_, rfl, rfl, rfl, keepsOtherStreams_of_set (streamReset_regs k s) (streamReset_rt k s),
    ⟨rfl, rfl, rfl, rfl, rfl, rfl⟩, rfl, rfl, streamReset_hostLog k s⟩
  · rw [exec_crWrite, writeCr_of_reset hrr]
  · rw [streamReset_globSta, contribution_of_cleared k (Ne.symm hint) rfl]
  · rw [streamReset_globSta, contribution_of_same k hint.symm]

theorem stopStream_regs (k : StreamId) (d : Byte) (s : State) :
    (stopStream k d s).regs = s.regs.set k
      { s.regs.get k with cr := d &&& 0x1F, sr := (s.regs.get k).sr ||| 0x0001 } := by
  simp only [stopStream, State.modRegs_regs, disable_regs, Tri.get_set_self, Tri.set_set]
  rfl

theorem stopStream_rt (k : StreamId) (d : Byte) (s : State) : (stopStream k d s).rt = (disable k s).rt := rfl

/-- Settles O13: the write is `stopStream`, a `Disable` between two stores to the stream's registers. -/
theorem controlStopHaltsStream : Obligations.ControlStopHaltsStream := by
  intro k d s hrr hrun r
  obtain ⟨henabled, harmed, hring, hworker⟩ := disable_rt_spec k s
  refine ⟨stopStream k d s, ?_, stopStream_regs k d s, stopStream_rt k d s, henabled, harmed, hring, hworker,
    ⟨rfl, rfl, rfl, rfl⟩, keepsOtherStreams_of_set (stopStream_regs k d s) (stopStream_rt k d s),
    ⟨rfl, rfl, rfl, rfl, rfl, rfl⟩, rfl, rfl, rfl⟩
  rw [exec_crWrite, writeCr_of_stop hrr hrun]

/-! ## Advance: start and LVI restart -/

theorem bdLength_eq (w1 : Dword) : bdLength w1 = w1.setWidth 16 :=
  (BitVec.setWidth_eq_extractLsb' (by omega)).symm

/-- `Advance` changes the registers and the draws only (R141). -/
theorem advance_eq (k : StreamId) (s : State) :
    advance k s = { s with draws := s.draws + 1, regs := (advance k s).regs } := rfl

/-- `Advance` after an update of its own stream: the entry at PIV is fetched from the memory as it was, and nothing but
the stream's registers and the draws changes (R140, R141). -/
theorem advance_modRegs (k : StreamId) (f : StreamRegs → StreamRegs) (s : State) :
    let r := f (s.regs.get k)
    let bytes := s.memRead (r.bdbar + 8 * r.piv.setWidth 32) 8
    advance k (s.modRegs k f) =
      { s with
        draws := s.draws + 1
        regs := s.regs.set k
          { r with
            civ := r.piv
            piv := r.piv + 1
            bdAddr := dwordOfBytes bytes &&& 0xFFFFFFFC
            bdCtl := dwordOfBytes (bytes.drop 4)
            picb := (dwordOfBytes (bytes.drop 4)).setWidth 16
            bdValid := true } } := by
  rw [advance_eq, advance_regs]
  simp only [State.modRegs_regs, Tri.get_set_self, Tri.set_set, bdLength_eq]
  rfl

/-! ## Enable: start -/

theorem openRuntime_spec (p : Platform) (k : StreamId) (now : BitVec 64) (rt : StreamRuntime) :
    (openRuntime p k now rt).enabled = true ∧ (openRuntime p k now rt).armed = true ∧
      (openRuntime p k now rt).ring = [] ∧ (openRuntime p k now rt).ringCap = p.ringCap.get k ∧
      (openRuntime p k now rt).config = rt.config := by
  cases hasync : p.asyncMode <;> simp [openRuntime, hasync, workerEnable, armOnePeriod, withPeriods]

theorem enable_of_enabled {k : StreamId} {s : State} (h : (s.rt.get k).enabled = true) : enable k s = s := if_pos h

theorem enable_rt_of_openOk {k : StreamId} {s : State} (hclosed : (s.rt.get k).enabled = false)
    (hopen : (s.host.get k).openOk = true) :
    (enable k s).rt.get k = openRuntime s.cfg k s.vnow { s.rt.get k with config := streamConfigOf s.mix k } := by
  simp [enable_rt, hclosed, hopen]

theorem enable_rt_of_openFailed {k : StreamId} {s : State} (hclosed : (s.rt.get k).enabled = false)
    (hopen : (s.host.get k).openOk = false) :
    (enable k s).rt.get k = { s.rt.get k with config := streamConfigOf s.mix k } := by
  simp [enable_rt, hclosed, hopen]

/-- Settles O14: the write is `startStream`, which enables the state that `Advance` answers (`advance_modRegs`); the
three cases are those of `Enable`. -/
theorem controlStartAdvancesAndEnables : Obligations.ControlStartAdvancesAndEnables := by
  intro k d s hrr hrun hdch r bytes advanced
  refine ⟨enable k advanced, ?_, rfl, enable_regs k advanced, enable_of_enabled (s := advanced),
    fun hclosed hopen => ?_, fun hclosed hopen => ?_, enable_keepsGlobals k advanced,
    keepsOtherStreams_of_set (enable_regs k advanced) (enable_rt k advanced), enable_keepsOutside k advanced,
    enable_result k advanced, enable_draws k advanced⟩
  · rw [exec_crWrite, writeCr_of_start hrr hrun hdch, startStream, advance_modRegs]
    rfl
  · rw [enable_rt_of_openOk (s := advanced) hclosed hopen]
    exact openRuntime_spec s.cfg k s.vnow _
  · rw [enable_rt_of_openFailed (s := advanced) hclosed hopen]
    exact hclosed

/-! ## The last valid index -/

/-- An LVI write restarts a stream that runs and is halted: RPBM and DCH both set (R108). -/
theorem restarts_iff (r : StreamRegs) :
    (crRuns r.cr && isHalted r.sr) = true ↔ r.cr.getLsbD 0 = true ∧ r.sr.getLsbD 0 = true := Bool.and_eq_true_iff

theorem writeLvi_of_not_restarting {k : StreamId} {s : State}
    (h : ¬((s.regs.get k).cr.getLsbD 0 = true ∧ (s.regs.get k).sr.getLsbD 0 = true)) (d : Byte) :
    writeLvi k d s = s.modRegs k fun r => { r with lvi := lviOperand d } := by
  rw [writeLvi, if_neg (mt (restarts_iff _).1 h)]

theorem writeLvi_of_restarting {k : StreamId} {s : State}
    (h : (s.regs.get k).cr.getLsbD 0 = true ∧ (s.regs.get k).sr.getLsbD 0 = true) (d : Byte) :
    writeLvi k d s =
      (advance k (s.modRegs k fun r => { r with sr := srResumed r.sr })).modRegs k
        fun r => { r with lvi := lviOperand d } := by
  rw [writeLvi, if_pos ((restarts_iff _).2 h)]

/-- Settles O16: the two cases of `writeLvi`; a restart is an `Advance` from PIV before the index is stored. -/
theorem lastValidIndexWrite : Obligations.LastValidIndexWrite := by
  intro k d s r bytes
  refine ⟨fun h => ?_, fun h => ?_, BitVec.toNat_setWidth _ _⟩
  · rw [exec_lviWrite, writeLvi_of_not_restarting h]
    rfl
  · rw [exec_lviWrite, writeLvi_of_restarting h, advance_modRegs]
    simp only [State.modRegs, Tri.get_set_self, Tri.set_set]
    rfl

end Sys2Proof.Machine
end

section
/-!
PROOFS. The descriptor fetch of R140, and the advance of R141 that makes one.
-/

namespace Sys2Proof.Machine

open Sys2Proof

/-- `FetchBDLE` changes the registers and the draws only (R140). -/
theorem fetchBdle_eq (k : StreamId) (s : State) :
    fetchBdle k s = { s with draws := s.draws + 1, regs := (fetchBdle k s).regs } := rfl

theorem modRegs_id (k : StreamId) (s : State) : s.modRegs k id = s := by
  simp only [State.modRegs, id_eq, Tri.set_get]

/-- Settles O29: a fetch answers the registers of `fetchBdle_regs`, and an advance is `advance_modRegs` after the update
that changes nothing; PIV is a 5-bit index, so it wraps mod 32. -/
theorem fetchAndAdvanceDescriptor : Obligations.FetchAndAdvanceDescriptor := by
  intro k s r load
  refine ⟨?_, ?_, BitVec.toNat_add _ _⟩
  · rw [fetchBdle_eq, fetchBdle_regs, bdLength_eq]
    rfl
  · have hadvance := advance_modRegs k id s
    rwa [modRegs_id] at hadvance

end Sys2Proof.Machine
end

section
/-!
PROOFS. The transfer call: the tests at its entry (R150), the rounds of its loop (R152) and the completion of a descriptor
(R153).
-/

namespace Sys2Proof.Machine

open Sys2Proof

/-! ## The completion -/

theorem srCompleted_advancing (sr : Word) (ioc : Bool) :
    srCompleted sr ioc false = if ioc then sr ||| 0x0008 else sr := rfl

/-- DCH, LVBCI and CELV are the bits of 0x0007 (R27). -/
theorem srCompleted_underrun (sr : Word) (ioc : Bool) :
    srCompleted sr ioc true = (if ioc then sr ||| 0x0008 else sr) ||| 0x0007 := by
  have hmask : srDCH ||| (srLVBCI ||| srCELV) = (0x0007 : Word) := by decide
  rw [← hmask, ← BitVec.or_assoc, ← BitVec.or_assoc]
  rfl

theorem complete_of_last {k : StreamId} {s : State} (h : (s.regs.get k).civ = (s.regs.get k).lvi) :
    complete k s =
      (updateStatus k (srCompleted (s.regs.get k).sr (bdIoc (s.regs.get k).bdCtl) true) s, .eof) := by
  rcases complete_cases k s with ⟨-, e⟩ | ⟨hne, -⟩
  · exact e
  · exact absurd h hne

theorem complete_of_not_last {k : StreamId} {s : State} (h : (s.regs.get k).civ ≠ (s.regs.get k).lvi) :
    complete k s =
      (advance k (updateStatus k (srCompleted (s.regs.get k).sr (bdIoc (s.regs.get k).bdCtl) false) s), .ok) := by
  rcases complete_cases k s with ⟨heq, -⟩ | ⟨-, e⟩
  · exact absurd heq h
  · exact e

/-- Settles O30: the two cases of `complete`, with the status bits of `srCompleted` joined into one mask. -/
theorem completionSetsStatusAndAdvances : Obligations.CompletionSetsStatusAndAdvances := by
  intro k s r v
  refine ⟨fun hlast => ?_, fun hmore => ?_⟩
  · rw [complete_of_last hlast, srCompleted_underrun]
    rfl
  · rw [complete_of_not_last hmore, srCompleted_advancing]
    rfl

/-! ## The entry tests -/

theorem transfer_of_halted {k : StreamId} {s : State} (h : (s.regs.get k).sr.getLsbD 0 = true) (m : Nat) :
    transfer k m s = (s, .ok) := if_pos h

theorem transfer_of_completionPending {k : StreamId} {s : State} (h : (s.regs.get k).sr.getLsbD 3 = true) (m : Nat) :
    transfer k m s = (s, .ok) := by
  have hpending : isCompletionPending (s.regs.get k).sr = true := h
  simp [transfer, hpending]

/-- Settles O31: the two tests at the entry of `transfer`. -/
theorem transferEntryTests : Obligations.TransferEntryTests := by
  rintro k m s (hhalted | hpending)
  · exact transfer_of_halted hhalted m
  · exact transfer_of_completionPending hpending m

/-! ## One move -/

/-- A move of the output, field by field: the ring takes the bytes at the cached address (R152). -/
theorem moveChunk_po (n : Nat) (s : State) :
    moveChunk .po n s =
      { s with
        draws := s.draws + 1
        rt := s.rt.set .po
          { s.rt.get .po with ring := (s.rt.get .po).ring ++ s.memRead (s.regs.get .po).bdAddr n }
        regs := (moveChunk .po n s).regs } := rfl

/-- A move of an input, field by field: memory takes the head of the ring at the cached address (R152). -/
theorem moveChunk_of_input {k : StreamId} (hk : k.isOut = false) (n : Nat) (s : State) :
    moveChunk k n s =
      { memWrite ((s.rt.get k).ring.take n) (s.regs.get k).bdAddr
          { s with rt := s.rt.set k { s.rt.get k with ring := (s.rt.get k).ring.drop n } } with
        regs := (moveChunk k n s).regs } := by
  simp only [moveChunk, hk]
  rfl

/-- A move of no more than the descriptor has left does not wrap PICB (R152). -/
theorem picb_sub_of_le {n : Nat} {picb : Word} (h : n ≤ 2 * picb.toNat) :
    picb - BitVec.ofNat 16 (n / 2) = BitVec.ofNat 16 (picb.toNat - n / 2) := by
  have hle : n / 2 ≤ picb.toNat := by omega
  rw [← BitVec.ofNat_sub_ofNat_of_le _ _ (by omega) hle, BitVec.ofNat_toNat, BitVec.setWidth_eq]

theorem moveChunk_regs_of_le {k : StreamId} {n : Nat} {s : State} (h : n ≤ 2 * (s.regs.get k).picb.toNat) :
    (moveChunk k n s).regs = s.regs.set k
      { s.regs.get k with
        picb := BitVec.ofNat 16 ((s.regs.get k).picb.toNat - n / 2)
        bdAddr := (s.regs.get k).bdAddr + BitVec.ofNat 32 n } := by
  rw [moveChunk_regs, picb_sub_of_le h]

/-! ## The rounds of the loop -/

theorem moveLoop_of_moveSize_zero {k : StreamId} {m : Nat} {s : State} (h : moveSize k m s = 0) :
    moveLoop k m m s = (s, .ok) := by
  cases m with
  | zero => rfl
  | succ m => simp [moveLoop, h]

section
variable {k : StreamId} {m : Nat} {s : State}

/-- A round that moves something takes one fuel and leaves enough for the bytes that remain. -/
theorem exists_fuel_of_moveSize_ne_zero (h : moveSize k m s ≠ 0) : ∃ f, m = f + 1 ∧ m - moveSize k m s ≤ f := by
  have hle := moveSize_le_remaining k m s
  exact ⟨m - 1, by omega, by omega⟩

/-- A round within the descriptor: the loop goes on from the move. -/
theorem moveLoop_of_picb_ne_zero (h : moveSize k m s ≠ 0)
    (hpicb : ((moveChunk k (moveSize k m s) s).regs.get k).picb ≠ 0) :
    moveLoop k m m s = moveLoop k (m - moveSize k m s) (m - moveSize k m s) (moveChunk k (moveSize k m s) s) := by
  obtain ⟨f, rfl, hf⟩ := exists_fuel_of_moveSize_ne_zero h
  rw [← moveLoop_fuel k _ f _ hf, moveLoop, if_neg h]
  exact if_neg hpicb

/-- A round that exhausts the last valid descriptor: its completion is the answer (R153, R155). -/
theorem moveLoop_of_eof (h : moveSize k m s ≠ 0) (hpicb : ((moveChunk k (moveSize k m s) s).regs.get k).picb = 0)
    {t : State} (hc : complete k (moveChunk k (moveSize k m s) s) = (t, .eof)) : moveLoop k m m s = (t, .eof) := by
  obtain ⟨f, rfl, -⟩ := exists_fuel_of_moveSize_ne_zero h
  simp only [moveLoop, if_neg h, if_pos hpicb, hc]

/-- A round that exhausts another descriptor: the loop goes on from its completion. -/
theorem moveLoop_of_ok (h : moveSize k m s ≠ 0) (hpicb : ((moveChunk k (moveSize k m s) s).regs.get k).picb = 0)
    {t : State} (hc : complete k (moveChunk k (moveSize k m s) s) = (t, .ok)) :
    moveLoop k m m s = moveLoop k (m - moveSize k m s) (m - moveSize k m s) t := by
  obtain ⟨f, rfl, hf⟩ := exists_fuel_of_moveSize_ne_zero h
  rw [← moveLoop_fuel k _ f _ hf]
  simp only [moveLoop, if_neg h, if_pos hpicb, hc]

end

/-- Settles O33: the statement's `n` and `s1` are `moveSize` and `moveChunk`, and its four clauses are the four ways a
round of the loop goes. A move leaves CIV and LVI, so they tell which completion follows. -/
theorem moveLoopIsWhileLoop : Obligations.MoveLoopIsWhileLoop := by
  intro k m s r rt room n0 n moved s1
  have hsize : moveSize k m s = n := by cases k <;> rfl
  have hle : n ≤ 2 * r.picb.toNat := hsize ▸ moveSize_le_picb k m s
  have hmove : moveChunk k n s = s1 := by
    have hregs := moveChunk_regs_of_le hle
    cases k with
    | pi => rw [moveChunk_of_input rfl, hregs]
    | po => rw [moveChunk_po, hregs]
    | mc => rw [moveChunk_of_input rfl, hregs]
  rw [← hsize] at hmove
  obtain ⟨hciv, hlvi⟩ : (s1.regs.get k).civ = r.civ ∧ (s1.regs.get k).lvi = r.lvi := by simp [s1]
  rw [← hmove] at hciv hlvi
  rw [← hmove, ← hsize]
  refine ⟨moveLoop_of_moveSize_zero, moveLoop_of_picb_ne_zero, fun hn hpicb hlast => ?_, fun hn hpicb hmore => ?_⟩
  · have hc := complete_of_last (hciv.trans (hlast.trans hlvi.symm))
    rw [moveLoop_of_eof hn hpicb hc, hc]
  · have hc := complete_of_not_last (fun h => hmore (hciv.symm.trans (h.trans hlvi)))
    rw [moveLoop_of_ok hn hpicb hc, hc]

end Sys2Proof.Machine
end

section
/-!
PROOFS. The interrupt of a stream: what `UpdateStatus` decides about its contribution (R170), and the line as the OR of the
three contributions (R34, R171).
-/

namespace Sys2Proof.Machine

open Sys2Proof

/-! ## The contribution -/

/-- A mask of one bit tests that bit. -/
theorem and_twoPow_ne_zero_iff {w i : Nat} (x : BitVec w) (hi : i < w) :
    x &&& BitVec.twoPow w i ≠ 0#w ↔ x.getLsbD i = true := by
  have hne : BitVec.twoPow w i ≠ 0#w := fun h => by simpa [hi] using congrArg (·.getLsbD i) h
  rw [BitVec.and_twoPow]
  cases x.getLsbD i with
  | false => simp
  | true => simpa using hne

/-- The qualifying pairs of R170: LVBCI with LVBIE, and BCIS with IOCE. FIFOE has none. -/
theorem qualifies_iff (new : Word) (cr : Byte) :
    qualifies new cr = true ↔
      (new &&& 0x0004 ≠ 0 ∧ cr.getLsbD 2 = true) ∨ (new &&& 0x0008 ≠ 0 ∧ cr.getLsbD 4 = true) := by
  have hlvbci : new &&& 0x0004 ≠ 0 ↔ new.getLsbD 2 = true := and_twoPow_ne_zero_iff new (i := 2) (by decide)
  have hbcis : new &&& 0x0008 ≠ 0 ↔ new.getLsbD 3 = true := and_twoPow_ne_zero_iff new (i := 3) (by decide)
  rw [hlvbci, hbcis, qualifies, Bool.or_eq_true, Bool.and_eq_true, Bool.and_eq_true, crLVBIE, crIOCE]

section
variable (k : StreamId) {sr v : Word} {cr : Byte} (g : Dword)

/-- A changed status with an enabled interrupt bit contributes (R170). -/
theorem contribution_of_qualifies (hne : v &&& 0x001C ≠ sr &&& 0x001C) (hv : v &&& 0x001C ≠ 0)
    (hq : qualifies (v &&& 0x001C) cr = true) : contribution k sr v cr g = g ||| gsStream k :=
  (if_neg hne).trans ((if_neg hv).trans (if_pos hq))

/-- A changed status whose remaining interrupt bits have no enable leaves the contribution as it was (R170, R175). -/
theorem contribution_of_not_qualifies (hne : v &&& 0x001C ≠ sr &&& 0x001C) (hv : v &&& 0x001C ≠ 0)
    (hq : ¬qualifies (v &&& 0x001C) cr = true) : contribution k sr v cr g = g :=
  (if_neg hne).trans ((if_neg hv).trans (if_neg hq))

end

/-- Settles O25: the new GLOB_STA is `contribution`, and the four clauses are its four branches. -/
theorem updateStatusDecidesContribution : Obligations.UpdateStatusDecidesContribution := by
  intro k v s r old new enabled
  have hq : qualifies new r.cr = true ↔ enabled := qualifies_iff new r.cr
  refine ⟨contribution k r.sr v r.cr s.globSta, rfl, fun hsame => ?_, fun hne hzero => ?_, fun hne hnz hen => ?_,
    fun hne hnz hdis => ?_⟩
  · exact contribution_of_same k hsame r.cr s.globSta
  · exact contribution_of_cleared k hne hzero r.cr s.globSta
  · exact contribution_of_qualifies k s.globSta hne hnz (hq.mpr hen)
  · exact contribution_of_not_qualifies k s.globSta hne hnz (mt hq.mp hdis)

/-! ## The line -/

/-- PIINT, POINT and MINT are bits 7:5 of GLOB_STA (R33). -/
theorem gsStream_or : gsStream .pi ||| gsStream .po ||| gsStream .mc = 0xE0 := by decide

/-- Bits 7:5 of GLOB_STA are all 0 exactly when no stream contributes (R33, R171). -/
theorem and_contributions_eq_zero_iff (g : Dword) : g &&& 0xE0 = 0#32 ↔ ∀ k, g &&& gsStream k = 0#32 := by
  rw [← gsStream_or, BitVec.and_or_distrib_left, BitVec.and_or_distrib_left, BitVec.or_eq_zero_iff,
    BitVec.or_eq_zero_iff]
  constructor
  · rintro ⟨⟨hpi, hpo⟩, hmc⟩ (_ | _ | _)
    exacts [hpi, hpo, hmc]
  · exact fun h => ⟨⟨h .pi, h .po⟩, h .mc⟩

/-- The line is low exactly when no stream contributes (R171). -/
theorem inta_eq_false_iff (s : State) : s.inta = false ↔ ∀ k, s.globSta &&& gsStream k = 0 :=
  bne_eq_false_iff_eq.trans (and_contributions_eq_zero_iff s.globSta)

/-- Settles O26: the negation of `inta_eq_false_iff`. -/
theorem interruptLineIsOrOfContributions : Obligations.InterruptLineIsOrOfContributions := by
  intro s
  refine ⟨?_, gsStream_or⟩
  rw [← Bool.not_eq_false, inta_eq_false_iff, not_forall]

end Sys2Proof.Machine
end

section
/-!
PROOFS. The quantities of a timer period (R181, R182) and the configuration of each stream (R186).
-/

namespace Sys2Proof.Machine

open Sys2Proof

/-! ## The timer frequency -/

theorem timerHzFor_of_override {p : Platform} {f : Nat} (h : p.timerHzOverride = some f) (rate : Nat) :
    timerHzFor p rate = f := by
  rw [timerHzFor, h]

theorem timerHzFor_of_high {p : Platform} {rate : Nat} (h : p.timerHzOverride = none) (hrate : 44100 < rate) :
    timerHzFor p rate = p.timerHzHigh := by
  rw [timerHzFor, h]
  exact if_pos hrate

theorem timerHzFor_of_default {p : Platform} {rate : Nat} (h : p.timerHzOverride = none) (hrate : rate ≤ 44100) :
    timerHzFor p rate = p.timerHzDefault := by
  rw [timerHzFor, h]
  exact if_neg hrate.not_gt

/-- The constraints of R181 on the three frequencies. -/
theorem Platform.one_le_timerHz {p : Platform} (hok : p.ok = true) :
    1 ≤ p.timerHzDefault ∧ 1 ≤ p.timerHzHigh ∧ 1 ≤ p.timerHzOverride.getD 1 := by
  simp only [Platform.ok, Bool.and_eq_true, decide_eq_true_eq] at hok
  omega

theorem one_le_timerHzFor {p : Platform} (hok : p.ok = true) (rate : Nat) : 1 ≤ timerHzFor p rate := by
  obtain ⟨hdefault, hhigh, hoverride⟩ := Platform.one_le_timerHz hok
  cases h : p.timerHzOverride with
  | some f =>
    rw [timerHzFor_of_override h]
    rwa [h] at hoverride
  | none =>
    rcases lt_or_ge 44100 rate with hrate | hrate
    · rwa [timerHzFor_of_high h hrate]
    · rwa [timerHzFor_of_default h hrate]

/-! ## Bytes per tick -/

/-- The bytes per tick are the largest multiple of a frame within the tick's share of the bytes per second (R182). -/
theorem bytesPerTickFor_eq_mul (c : StreamConfig) (hz : Nat) :
    bytesPerTickFor c hz = frameBytes c * (c.rate * frameBytes c / hz / frameBytes c) := by
  have hsplit := Nat.div_add_mod (c.rate * frameBytes c / hz) (frameBytes c)
  rw [bytesPerTickFor]
  omega

theorem lt_bytesPerTickFor_add_frame {c : StreamConfig} (hc : 0 < c.channels) (hz : Nat) :
    c.rate * frameBytes c / hz < bytesPerTickFor c hz + frameBytes c := by
  rw [bytesPerTickFor_eq_mul]
  exact Nat.lt_mul_div_succ _ (Nat.mul_pos hc (by decide))

theorem bytesPerTickFor_of_rate_zero {c : StreamConfig} (h : c.rate = 0) (hz : Nat) : bytesPerTickFor c hz = 0 := by
  simp [bytesPerTickFor, h]

/-- Settles O39: the frequency by the branches of `timerHzFor`; the bytes per tick are a multiple of a frame, less than
one frame below the tick's share; the other quantities are their definitions. -/
theorem periodQuantities : Obligations.PeriodQuantities := by
  refine ⟨fun p rate => ⟨fun f h => timerHzFor_of_override h rate, timerHzFor_of_high, timerHzFor_of_default,
    fun hok => one_le_timerHzFor hok rate⟩, fun p c hz b hc => ⟨?_, Nat.sub_le _ _, lt_bytesPerTickFor_add_frame hc hz,
    fun h => bytesPerTickFor_of_rate_zero h hz, rfl, rfl⟩, fun m => ⟨rfl, rfl, rfl⟩⟩
  rw [bytesPerTickFor_eq_mul]
  exact Nat.mul_mod_right _ _

end Sys2Proof.Machine
end

section
/-!
PROOFS. No deadline is written early (R188): an operation that leaves the clock leaves each stream's deadline, or writes
one that is at or after the clock.
-/

namespace Sys2Proof.Machine

open Sys2Proof

/-! ## The relation -/

/-- The deadline of one stream stays, or is at or after `now` (R188). -/
def DeadlineNotEarly (now : BitVec 64) (rt rt' : StreamRuntime) : Prop :=
  rt'.deadline = rt.deadline ∨ now ≤ rt'.deadline

/-- From `s` to `t` the clock stands still and no stream's deadline changes to one before it (R188). -/
def DeadlinesNotEarly (s t : State) : Prop :=
  t.vnow = s.vnow ∧ ∀ k, DeadlineNotEarly s.vnow (s.rt.get k) (t.rt.get k)

section
variable {s t u : State}

theorem DeadlinesNotEarly.of_rt_eq (hv : t.vnow = s.vnow) (hrt : t.rt = s.rt) : DeadlinesNotEarly s t :=
  ⟨hv, fun k => .inl (by rw [hrt])⟩

theorem DeadlinesNotEarly.refl (s : State) : DeadlinesNotEarly s s := .of_rt_eq rfl rfl

theorem DeadlinesNotEarly.trans (hst : DeadlinesNotEarly s t) (htu : DeadlinesNotEarly t u) :
    DeadlinesNotEarly s u := by
  obtain ⟨hv, hrt⟩ := hst
  obtain ⟨hv', hrt'⟩ := htu
  refine ⟨hv'.trans hv, fun k => ?_⟩
  rcases hrt' k with hkept | hwritten
  · rw [DeadlineNotEarly, hkept]
    exact hrt k
  · exact .inr (hv ▸ hwritten)

/-- An operation that writes one stream's runtime state is judged by that stream's deadline. -/
theorem DeadlinesNotEarly.of_set {k : StreamId} {rt : StreamRuntime} (hv : t.vnow = s.vnow)
    (hrt : t.rt = s.rt.set k rt) (hk : DeadlineNotEarly s.vnow (s.rt.get k) rt) : DeadlinesNotEarly s t := by
  refine ⟨hv, fun j => ?_⟩
  by_cases hj : j = k
  · rw [hrt, hj, Tri.get_set_self]
    exact hk
  · rw [hrt, Tri.get_set_ne _ _ hj]
    exact .inl rfl

theorem DeadlinesNotEarly.ite {c : Prop} [Decidable c] (ht : DeadlinesNotEarly s t) (hu : DeadlinesNotEarly s u) :
    DeadlinesNotEarly s (if c then t else u) := by
  split
  · exact ht
  · exact hu

end

/-! ## The scheduler -/

theorem le_armOnePeriod_deadline (now : BitVec 64) (rt : StreamRuntime) : now ≤ (armOnePeriod now rt).deadline :=
  le_clockAdd now rt.ticksPerPeriod

theorem le_openRuntime_deadline (p : Platform) (k : StreamId) (now : BitVec 64) (rt : StreamRuntime) :
    now ≤ (openRuntime p k now rt).deadline := by
  unfold openRuntime
  split <;> exact le_armOnePeriod_deadline now _

@[simp] theorem closeRuntime_deadline (p : Platform) (rt : StreamRuntime) :
    (closeRuntime p rt).deadline = rt.deadline := by
  unfold closeRuntime
  split <;> rfl

theorem enable_deadlinesNotEarly (k : StreamId) (s : State) : DeadlinesNotEarly s (enable k s) := by
  refine .of_set (enable_vnow k s) (enable_rt k s) ?_
  split
  · exact .inl rfl
  · split
    · exact .inr (le_openRuntime_deadline _ _ _ _)
    · exact .inl rfl

theorem disable_deadlinesNotEarly (k : StreamId) (s : State) : DeadlinesNotEarly s (disable k s) :=
  .of_set (disable_vnow k s) (disable_rt k s) (.inl (closeRuntime_deadline _ _))

theorem reopen_deadlinesNotEarly (k : StreamId) (s : State) : DeadlinesNotEarly s (reopen k s) := by
  refine .of_set (reopen_vnow k s) (reopen_rt k s) ?_
  split
  · split
    · exact .inr (le_armOnePeriod_deadline _ _)
    · exact .inl (closeRuntime_deadline _ _)
  · exact .inl rfl

/-! ## Port transactions -/

theorem deviceReset_deadlinesNotEarly (s : State) : DeadlinesNotEarly s (deviceReset s) :=
  ⟨deviceReset_vnow s, fun k => .inl (by rw [deviceReset_rt, closeRuntime_deadline])⟩

theorem writeCr_deadlinesNotEarly (k : StreamId) (d : Byte) (s : State) : DeadlinesNotEarly s (writeCr k d s) := by
  have hreset : DeadlinesNotEarly s (streamReset k s) :=
    .of_set (streamReset_vnow k s) (streamReset_rt k s) (.inl (closeRuntime_deadline _ _))
  have hstop : DeadlinesNotEarly s (stopStream k d s) :=
    .of_set rfl (stopStream_rt k d s) (.inl (closeRuntime_deadline _ _))
  have hstart : DeadlinesNotEarly s (startStream k d s) :=
    .trans (.of_rt_eq rfl rfl) (enable_deadlinesNotEarly k _)
  exact .ite hreset (.ite hstop (.ite hstart (.of_rt_eq rfl rfl)))

theorem defaultStreamRate_deadlinesNotEarly (k : StreamId) (s : State) :
    DeadlinesNotEarly s (defaultStreamRate k s) :=
  .trans (.of_rt_eq rfl rfl) (reopen_deadlinesNotEarly k _)

theorem writeExtendedAudio_deadlinesNotEarly (d : Word) (s : State) :
    DeadlinesNotEarly s (writeExtendedAudio d s) := by
  have hfree : DeadlinesNotEarly s s.freeSemaphore := .of_rt_eq rfl rfl
  have hvra : DeadlinesNotEarly s (if d.getLsbD vraBit then s.freeSemaphore
      else defaultStreamRate .pi (defaultStreamRate .po s.freeSemaphore)) :=
    .ite hfree (.trans hfree
      (.trans (defaultStreamRate_deadlinesNotEarly .po _) (defaultStreamRate_deadlinesNotEarly .pi _)))
  have hvrm (t : State) : DeadlinesNotEarly t (if d.getLsbD vrmBit then t else defaultStreamRate .mc t) :=
    .ite (.refl t) (defaultStreamRate_deadlinesNotEarly .mc t)
  exact .trans hvra (.trans (hvrm _) (.of_rt_eq rfl rfl))

theorem writeRate_deadlinesNotEarly (k : StreamId) (d : Word) (s : State) : DeadlinesNotEarly s (writeRate k d s) :=
  .ite (.trans (.of_rt_eq rfl rfl) (reopen_deadlinesNotEarly k _)) (.of_rt_eq rfl rfl)

theorem writeLvi_deadlinesNotEarly (k : StreamId) (d : Byte) (s : State) : DeadlinesNotEarly s (writeLvi k d s) := by
  simp only [writeLvi]
  split <;> exact .of_rt_eq rfl rfl

theorem writeGlobCnt_deadlinesNotEarly (d : Dword) (s : State) : DeadlinesNotEarly s (writeGlobCnt d s) :=
  .ite (.refl s) (.of_rt_eq rfl rfl)

/-- A transaction completes. Those whose meaning branches are named; every other one leaves the runtime state. -/
theorem exec_deadlinesNotEarly (i : Instr) (s : State) : ∃ t, exec i s = .next t ∧ DeadlinesNotEarly s t := by
  cases i
  case out8NabmPiLvi d => exact ⟨_, rfl, writeLvi_deadlinesNotEarly .pi d s⟩
  case out8NabmPoLvi d => exact ⟨_, rfl, writeLvi_deadlinesNotEarly .po d s⟩
  case out8NabmMcLvi d => exact ⟨_, rfl, writeLvi_deadlinesNotEarly .mc d s⟩
  case out8NabmPiCr d => exact ⟨_, rfl, writeCr_deadlinesNotEarly .pi d s⟩
  case out8NabmPoCr d => exact ⟨_, rfl, writeCr_deadlinesNotEarly .po d s⟩
  case out8NabmMcCr d => exact ⟨_, rfl, writeCr_deadlinesNotEarly .mc d s⟩
  case out32NabmGlobCnt d => exact ⟨_, rfl, writeGlobCnt_deadlinesNotEarly d s⟩
  case out16NamReset d => exact ⟨_, rfl, .trans (.of_rt_eq rfl rfl) (deviceReset_deadlinesNotEarly s.freeSemaphore)⟩
  case out16NamExtAudioCtrl d => exact ⟨_, rfl, writeExtendedAudio_deadlinesNotEarly d s⟩
  case out16NamPcmFrontDacRate d => exact ⟨_, rfl, writeRate_deadlinesNotEarly .po d s⟩
  case out16NamPcmLrAdcRate d => exact ⟨_, rfl, writeRate_deadlinesNotEarly .pi d s⟩
  case out16NamMicAdcRate d => exact ⟨_, rfl, writeRate_deadlinesNotEarly .mc d s⟩
  all_goals exact ⟨_, rfl, .of_rt_eq rfl rfl⟩

/-! ## Agents -/

theorem hostSide_deadlinesNotEarly (k : StreamId) (s : State) : DeadlinesNotEarly s (hostSide k s) := by
  rcases hostSide_rt k s with ⟨n, hrt⟩ | ⟨bytes, -, hrt⟩
  · exact .of_set (hostSide_vnow k s) hrt (.inl rfl)
  · exact .of_set (hostSide_vnow k s) hrt (.inl rfl)

theorem tickHostSide_deadlinesNotEarly (k : StreamId) (s : State) : DeadlinesNotEarly s (tickHostSide k s) :=
  .ite (.of_set rfl rfl (.inl rfl)) (hostSide_deadlinesNotEarly k s)

theorem transfer_deadlinesNotEarly (k : StreamId) (m : Nat) (s : State) :
    DeadlinesNotEarly s (transfer k m s).1 := by
  obtain ⟨-, -, -, -, hv, -⟩ := transfer_unchanged k m s
  obtain ⟨ring, hrt⟩ := transfer_rt k m s
  exact .of_set hv hrt (.inl rfl)

theorem tickData_deadlinesNotEarly (k : StreamId) (s : State) : DeadlinesNotEarly s (tickData k s) :=
  .ite (.trans (transfer_deadlinesNotEarly k _ s) (tickHostSide_deadlinesNotEarly k _))
    (.trans (tickHostSide_deadlinesNotEarly k s) (transfer_deadlinesNotEarly k _ _))

theorem rearm_deadlinesNotEarly (k : StreamId) (s : State) : DeadlinesNotEarly s (rearm k s) := by
  refine .of_set rfl rfl ?_
  split
  · exact .inr (le_clockAdd s.vnow _)
  · exact .inl rfl

theorem tick_deadlinesNotEarly (k : StreamId) (s : State) : DeadlinesNotEarly s (tick k s) :=
  .ite (.trans (tickData_deadlinesNotEarly k s) (rearm_deadlinesNotEarly k _)) (.refl s)

theorem workerStep_deadlinesNotEarly (k : StreamId) (s : State) : DeadlinesNotEarly s (workerStep k s) := by
  have hwoken : DeadlinesNotEarly s (s.modRt k fun rt => { rt with workerSignalled := false }) :=
    .of_set rfl rfl (.inl rfl)
  exact .ite (.trans hwoken (.ite (.of_set rfl rfl (.inl rfl)) (.ite (hostSide_deadlinesNotEarly k _) (.refl _))))
    (.refl s)

theorem shutdownWorker_deadlinesNotEarly (k : StreamId) (s : State) : DeadlinesNotEarly s (shutdownWorker k s) :=
  .ite (.of_set rfl rfl (.inl rfl)) (.refl s)

theorem releaseRing_deadlinesNotEarly (k : StreamId) (s : State) : DeadlinesNotEarly s (releaseRing k s) :=
  .ite (.refl s) (.of_set rfl rfl (.inl rfl))

theorem loadStream_deadlinesNotEarly (r : SaveRecord) (k : StreamId) (s : State) :
    DeadlinesNotEarly s (loadStream r k s) := by
  have hhost : DeadlinesNotEarly s (reapplyHost s) := .of_rt_eq (reapplyHost_vnow s) (reapplyHost_rt s)
  exact .ite (.trans hhost (enable_deadlinesNotEarly k _)) hhost

theorem loadRecord_deadlinesNotEarly (r : SaveRecord) (s : State) : DeadlinesNotEarly s (loadRecord r s) := by
  have hclosed : DeadlinesNotEarly s (disable .mc (disable .po (disable .pi s))) :=
    .trans (disable_deadlinesNotEarly .pi s)
      (.trans (disable_deadlinesNotEarly .po _) (disable_deadlinesNotEarly .mc _))
  have hloaded (t : State) :
      DeadlinesNotEarly t (loadStream r .mc (loadStream r .po (loadStream r .pi t))) :=
    .trans (loadStream_deadlinesNotEarly r .pi t)
      (.trans (loadStream_deadlinesNotEarly r .po _) (loadStream_deadlinesNotEarly r .mc _))
  exact .trans hclosed (.trans (.of_rt_eq rfl rfl) (hloaded _))

theorem completeStore_deadlinesNotEarly (n : Nat) (s : State) : DeadlinesNotEarly s (completeStore n s) := by
  unfold completeStore
  split
  · rw [writeByte_mem_only]
    exact .of_rt_eq rfl rfl
  · exact .refl s

/-- An agent's step moves the clock and leaves the runtime state, or leaves the clock and writes no early deadline. -/
theorem agentStep_rt_or_deadlinesNotEarly (e : AgentEvent) (s : State) :
    (agentStep e s).rt = s.rt ∨ DeadlinesNotEarly s (agentStep e s) := by
  cases e with
  | clock delta => exact .inl rfl
  | tick k => exact .inr (tick_deadlinesNotEarly k s)
  | worker k => exact .inr (workerStep_deadlinesNotEarly k s)
  | save => exact .inr (.of_rt_eq rfl rfl)
  | load r => exact .inr (loadRecord_deadlinesNotEarly r s)
  | deviceReset => exact .inr (deviceReset_deadlinesNotEarly s)
  | shutdown k => exact .inr (shutdownWorker_deadlinesNotEarly k s)
  | release k => exact .inr (releaseRing_deadlinesNotEarly k s)
  | guestStore a b => exact .inr (.of_rt_eq rfl rfl)
  | storeDone n => exact .inr (completeStore_deadlinesNotEarly n s)

/-! ## Events -/

theorem runEvent_rt_or_deadlinesNotEarly {e : Event} {s t : State} (h : runEvent e s = .next t) :
    t.rt = s.rt ∨ DeadlinesNotEarly s t := by
  rcases runEvent_cases e s with ⟨i, hrun⟩ | hrun | ⟨a, -, hrun⟩ | ⟨w, d, why, -, -, hrun⟩
  · obtain ⟨u, hexec, hu⟩ := exec_deadlinesNotEarly i s
    obtain rfl := Host.Outcome.next.inj (h.symm.trans (hrun.trans hexec))
    exact .inr hu
  · obtain rfl := Host.Outcome.next.inj (h.symm.trans hrun)
    exact .inl rfl
  · obtain rfl := Host.Outcome.next.inj (h.symm.trans hrun)
    exact agentStep_rt_or_deadlinesNotEarly a s
  · cases h.symm.trans hrun

/-- Settles O57: an event leaves the runtime state, or leaves the clock and writes no early deadline. -/
theorem deadlineIsNeverEarly : Obligations.DeadlineIsNeverEarly := by
  intro e s t k h hne
  rcases runEvent_rt_or_deadlinesNotEarly h with hrt | ⟨hv, hk⟩
  · exact absurd (by rw [hrt]) hne
  · rw [hv]
    exact (hk k).resolve_left hne

end Sys2Proof.Machine
end

section
/-!
PROOFS. The accesses of the codec registers that make no stream reopen (R197, R201 to R207): each operation of
`Machine/Mixer.lean` written out as the record it leaves.
-/

namespace Sys2Proof.Machine

open Sys2Proof

/-! ## Plain reads and stores -/

/-- A read while the semaphore is free changes the port result alone (R197). -/
theorem readMixer_of_free {s : State} (h : s.cas = 0) (reg : BitVec 7) :
    readMixer reg s = { s with result := .word (bankGet s.mix reg) } := by
  simp [readMixer, State.answer, State.freeSemaphore, ← h]

theorem bankGet_bankSet_self (b : Bank) (reg : BitVec 7) (v : Word) : bankGet (bankSet b reg v) reg = v := by
  rw [bankGet_bankSet, if_pos rfl]

theorem bankGet_bankSet_of_ne (b : Bank) {reg q : BitVec 7} (h : q ≠ reg) (v : Word) :
    bankGet (bankSet b reg v) q = bankGet b q := by
  rw [bankGet_bankSet, if_neg h.symm]

theorem readMixer_storeMixer_self (reg : BitVec 7) (d : Word) (s : State) :
    readMixer reg (storeMixer reg d s) = { storeMixer reg d s with result := .word d } := by
  have hread : bankGet (storeMixer reg d s).mix reg = d := bankGet_bankSet_self s.mix reg d
  rw [readMixer_of_free rfl, hread]

theorem exec_in16NamReg (reg : BitVec 7) (s : State) : exec (.in16NamReg reg) s = .next (readMixer reg s) := rfl

theorem exec_out16NamReg (reg : BitVec 7) (d : Word) (s : State) :
    exec (.out16NamReg reg d) s = .next (storeMixer reg d s) := rfl

/-- Settles O17: the accesses run `readMixer` and `storeMixer`, and a store replaces one register of the bank. -/
theorem mixerReadAndPlainStore : Obligations.MixerReadAndPlainStore := by
  intro reg d s
  refine ⟨exec_in16NamReg reg s, storeMixer reg d s, exec_out16NamReg reg d s, rfl, ?_, fun q hq => ?_⟩
  · rw [exec_in16NamReg, readMixer_storeMixer_self]
  · exact bankGet_bankSet_of_ne s.mix hq d

/-! ## Volumes and gains -/

/-- The host is sent the volume of the value just stored (R202). -/
theorem writeVolume_eq (c : VolumeControl) (off : Nat) (d : Word) (s : State) :
    writeVolume c off d s =
      { s with
        cas := 0
        mix := bankSet s.mix (mixReg off) d
        hostLog := .setVolume c (volumeOf s.cfg.volMax d) :: s.hostLog } := by
  have hread : (s.freeSemaphore.setMix (mixReg off) d).mixAt off = d := bankGet_bankSet_self s.mix (mixReg off) d
  rw [writeVolume, sendVolume, hread]
  rfl

/-- The host is sent the gain of the value just stored (R204). -/
theorem writeGain_eq (c : VolumeControl) (off : Nat) (d : Word) (s : State) :
    writeGain c off d s =
      { s with
        cas := 0
        mix := bankSet s.mix (mixReg off) d
        hostLog := .setVolume c (gainOf s.cfg.volMax d) :: s.hostLog } := by
  have hread : (s.freeSemaphore.setMix (mixReg off) d).mixAt off = d := bankGet_bankSet_self s.mix (mixReg off) d
  rw [writeGain, sendGain, hread]
  rfl

/-- A master write is a volume write of the quirk's value (R201). -/
theorem writeMasterVolume_eq (d : Word) (s : State) :
    writeMasterVolume d s = writeVolume .master 0x02 (quirkVolume d) s := rfl

/-- The two quirks as one OR of masks (R201). -/
theorem quirkVolume_eq (d : Word) :
    quirkVolume d = d ||| (if d.getLsbD 5 then 0x001F else 0) ||| (if d.getLsbD 13 then 0x1F00 else 0) := by
  unfold quirkVolume
  cases d.getLsbD 5 <;> cases d.getLsbD 13 <;> simp

/-- `Vol(v)` with its fields by division (R210). -/
theorem volumeOf_eq (volMax : Nat) (v : Word) :
    volumeOf volMax v =
      ⟨v.getLsbD 15, volMax - 4 * (v.toNat / 256 % 32), volMax - 4 * (v.toNat % 32)⟩ := by
  simp [volumeOf, Nat.shiftRight_eq_div_pow]

theorem exec_out16NamMasterVol (d : Word) (s : State) :
    exec (.out16NamMasterVol d) s = .next (writeMasterVolume d s) := rfl

theorem exec_out16NamHeadphoneVol (d : Word) (s : State) :
    exec (.out16NamHeadphoneVol d) s = .next (writeHeadphoneVolume d s) := rfl

/-- Settles O18: the stored value is `quirkVolume`, and a master write is a volume write of it. -/
theorem quirkVolumesForceLowBits : Obligations.QuirkVolumesForceLowBits := by
  intro d s
  dsimp only
  rw [← quirkVolume_eq, ← volumeOf_eq, exec_out16NamMasterVol, writeMasterVolume_eq, writeVolume_eq]
  exact ⟨rfl, exec_out16NamHeadphoneVol d s⟩

/-- Settles O19: the writes are `writeVolume` and `writeGain` of the five registers. -/
theorem volumesAndGainsStoreVerbatim : Obligations.VolumesAndGainsStoreVerbatim := fun d s =>
  ⟨congrArg Host.Outcome.next (writeVolume_eq .micIn 0x0E d s),
    congrArg Host.Outcome.next (writeVolume_eq .lineIn 0x10 d s),
    congrArg Host.Outcome.next (writeVolume_eq .front 0x18 d s),
    congrArg Host.Outcome.next (writeGain_eq .lineInRec 0x1C d s),
    congrArg Host.Outcome.next (writeGain_eq .micRec 0x1E d s)⟩

/-! ## The record select -/

/-- Codes 5 and 6 are not in the enumeration and fall to the microphone's code 0 (R205, R212). -/
theorem code_recordSourceOf (i : BitVec 3) : (recordSourceOf i).code = if i = 5 ∨ i = 6 then 0 else i := by
  revert i
  decide

theorem recordSourceOf_code (src : RecordSource) : recordSourceOf src.code = src := by
  cases src <;> rfl

/-- The stored value is two 3-bit codes in bits 10:8 and 2:0, every other bit 0 (R205). -/
theorem recordSelectValue_eq_append (d : Word) :
    recordSelectValue d = 0#5 ++ (recordLeft d).code ++ 0#5 ++ (recordRight d).code := by
  have hpad : (0#5 ++ (recordLeft d).code).setWidth 16 = (recordLeft d).code.setWidth 16 :=
    BitVec.eq_of_toNat_eq (by rw [BitVec.toNat_setWidth, BitVec.toNat_append]; simp)
  rw [← shiftLeft_or_eq_append (0#5 ++ (recordLeft d).code), hpad]
  simp [recordSelectValue]

theorem recordLeft_recordSelectValue (d : Word) : recordLeft (recordSelectValue d) = recordLeft d := by
  rw [recordLeft, recordSelectValue_eq_append, BitVec.extractLsb'_append_eq_of_le (by decide),
    BitVec.extractLsb'_append_eq_of_le (by decide), BitVec.extractLsb'_append_eq_right, recordSourceOf_code]

theorem recordRight_recordSelectValue (d : Word) : recordRight (recordSelectValue d) = recordRight d := by
  rw [recordRight, recordSelectValue_eq_append, BitVec.extractLsb'_append_eq_right, recordSourceOf_code]

/-- The register is symmetric: a value that was read back selects the same sources (R205). -/
theorem recordSelectValue_recordSelectValue (d : Word) :
    recordSelectValue (recordSelectValue d) = recordSelectValue d := by
  rw [recordSelectValue, recordLeft_recordSelectValue, recordRight_recordSelectValue, recordSelectValue]

theorem exec_out16NamRecordSelect (d : Word) (s : State) :
    exec (.out16NamRecordSelect d) s = .next (writeRecordSelect d s) := rfl

theorem writeRecordSelect_mix (d : Word) (s : State) :
    (writeRecordSelect d s).mix = bankSet s.mix 0x0D (recordSelectValue d) := rfl

/-- Settles O20: the stored value is `recordSelectValue`, the concatenation of the two mapped codes. -/
theorem recordSelectKeepsCodes : Obligations.RecordSelectKeepsCodes := by
  intro d s
  dsimp only
  rw [← code_recordSourceOf, ← code_recordSourceOf]
  have hv : 0#5 ++ (recordSourceOf (d.extractLsb' 8 3)).code ++ 0#5 ++ (recordSourceOf (d.extractLsb' 0 3)).code =
      recordSelectValue d := (recordSelectValue_eq_append d).symm
  rw [hv]
  refine ⟨exec_out16NamRecordSelect d s, code_recordSourceOf, _, exec_out16NamRecordSelect _ s, ?_⟩
  rw [writeRecordSelect_mix, recordSelectValue_recordSelectValue]

/-! ## Powerdown and the identification registers -/

/-- Settles O21: the writes are `writePowerdown` and `writeReadOnly`. -/
theorem powerdownAndReadOnlyCodecRegisters : Obligations.PowerdownAndReadOnlyCodecRegisters := fun d s =>
  ⟨show exec (.out16NamPowerdown d) s = .next (writePowerdown d s) from rfl,
    show exec (.out16NamExtAudioId d) s = .next (writeReadOnly d s) from rfl,
    show exec (.out16NamVendorId1 d) s = .next (writeReadOnly d s) from rfl,
    show exec (.out16NamVendorId2 d) s = .next (writeReadOnly d s) from rfl⟩

end Sys2Proof.Machine
end

section
/-!
PROOFS. The codec registers that hold the streams' rates: the writes of a rate register (R209) and of Extended Audio
Control (R208), which sets the rates of the streams whose gate bit is clear to their default.
-/

namespace Sys2Proof.Machine

open Sys2Proof

/-! ## The rate registers -/

/-- The codec register that holds a stream's rate (R186). -/
def rateReg (k : StreamId) : BitVec 7 := mixReg (rateOffset k)

theorem rateReg_ne_of_ne {j k : StreamId} (h : j ≠ k) : rateReg j ≠ rateReg k := by
  revert h
  cases j <;> cases k <;> decide

theorem rateReg_ne_extendedAudio (k : StreamId) : rateReg k ≠ 0x15 := by
  cases k <;> decide

/-- A stream's configuration depends on the bank through its own rate register only (R186). -/
theorem streamConfigOf_congr {k : StreamId} {m m' : Bank} (h : bankGet m (rateReg k) = bankGet m' (rateReg k)) :
    streamConfigOf m k = streamConfigOf m' k :=
  congrArg (fun v : Word => (⟨v.toNat, channelsOf k, directionOf k⟩ : StreamConfig)) h

theorem reopen_rt_get_of_ne {j k : StreamId} (h : j ≠ k) (s : State) : (reopen k s).rt.get j = s.rt.get j := by
  rw [reopen_rt, Tri.get_set_ne _ _ h]

/-! ## What a reopen of one stream reads -/

/-- Two states that a reopen of stream `k` does not tell apart: the same surroundings, and the same runtime state and
rate of the stream (R186, R190). -/
structure SameStream (k : StreamId) (s t : State) : Prop where
  outside : KeepsOutside s t
  runtime : t.rt.get k = s.rt.get k
  rate : bankGet t.mix (rateReg k) = bankGet s.mix (rateReg k)

section
variable {k : StreamId} {s t u : State}

theorem SameStream.refl (k : StreamId) (s : State) : SameStream k s s := ⟨⟨rfl, rfl, rfl, rfl, rfl, rfl⟩, rfl, rfl⟩

theorem SameStream.trans (hst : SameStream k s t) (htu : SameStream k t u) : SameStream k s u := by
  obtain ⟨⟨hmem, hracing, hvnow, hcfg, hpending, hhost⟩, hrt, hrate⟩ := hst
  obtain ⟨⟨hmem', hracing', hvnow', hcfg', hpending', hhost'⟩, hrt', hrate'⟩ := htu
  exact ⟨⟨hmem'.trans hmem, hracing'.trans hracing, hvnow'.trans hvnow, hcfg'.trans hcfg, hpending'.trans hpending,
    hhost'.trans hhost⟩, hrt'.trans hrt, hrate'.trans hrate⟩

theorem SameStream.freeSemaphore (k : StreamId) (s : State) : SameStream k s s.freeSemaphore :=
  ⟨⟨rfl, rfl, rfl, rfl, rfl, rfl⟩, rfl, rfl⟩

theorem SameStream.setMix {reg : BitVec 7} (h : rateReg k ≠ reg) (v : Word) (s : State) :
    SameStream k s (s.setMix reg v) :=
  ⟨⟨rfl, rfl, rfl, rfl, rfl, rfl⟩, rfl, bankGet_bankSet_of_ne s.mix h v⟩

theorem reopen_keepsOutside (k : StreamId) (s : State) : KeepsOutside s (reopen k s) :=
  ⟨reopen_mem k s, reopen_racing k s, reopen_vnow k s, reopen_cfg k s, reopen_pending k s, reopen_host k s⟩

theorem SameStream.reopen_of_ne {j : StreamId} (h : k ≠ j) (s : State) : SameStream k s (reopen j s) :=
  ⟨reopen_keepsOutside j s, reopen_rt_get_of_ne h s, by rw [reopen_mix]⟩

theorem SameStream.reopen_rt_get (h : SameStream k s t) : (reopen k t).rt.get k = (reopen k s).rt.get k := by
  obtain ⟨⟨-, -, hvnow, hcfg, -, hhost⟩, hrt, hrate⟩ := h
  simp only [reopen_rt, Tri.get_set_self, hrt, hvnow, hcfg, hhost, streamConfigOf_congr hrate]

end

/-! ## A rate write -/

theorem exec_rateWrite (k : StreamId) (d : Word) (s : State) :
    exec (Port.rateWrite k d) s = .next (writeRate k d s) := by
  cases k <;> rfl

/-- An open gate: the rate is stored and the stream reopens (R209). -/
theorem writeRate_of_open {k : StreamId} {s : State} (h : (bankGet s.mix 0x15).getLsbD (rateGate k) = true) (d : Word) :
    writeRate k d s = reopen k { s with cas := 0, mix := bankSet s.mix (rateReg k) d } := if_pos h

/-- A closed gate: the write is ignored (R209). -/
theorem writeRate_of_closed {k : StreamId} {s : State} (h : (bankGet s.mix 0x15).getLsbD (rateGate k) = false)
    (d : Word) : writeRate k d s = { s with cas := 0 } :=
  if_neg (ne_true_of_eq_false h)

/-- Settles O23: the write runs `writeRate`, whose two cases are the two clauses. -/
theorem rateWritesAreGated : Obligations.RateWritesAreGated := by
  intro k d s
  have hgated :
      ((bankGet s.mix 0x15).getLsbD (rateGate k) = true →
        exec (Port.rateWrite k d) s = .next (reopen k { s with cas := 0, mix := bankSet s.mix (rateReg k) d })) ∧
      ((bankGet s.mix 0x15).getLsbD (rateGate k) = false →
        exec (Port.rateWrite k d) s = .next { s with cas := 0 }) := by
    rw [exec_rateWrite]
    exact ⟨fun h => congrArg _ (writeRate_of_open h d), fun h => congrArg _ (writeRate_of_closed h d)⟩
  cases k <;> exact hgated

/-! ## One stream's share of an Extended Audio Control write -/

/-- What an Extended Audio Control write of `d` does for stream `k`: the default rate and a reopen where the stream's
gate bit is clear (R208). -/
def defaultUngated (d : Word) (k : StreamId) (s : State) : State :=
  if d.getLsbD (rateGate k) then s else defaultStreamRate k s

/-- The write is the three streams' shares and then the store (R208). -/
theorem writeExtendedAudio_eq (d : Word) (s : State) :
    writeExtendedAudio d s =
      (defaultUngated d .mc (defaultUngated d .pi (defaultUngated d .po s.freeSemaphore))).setMix 0x15 d := by
  have hvra : (if d.getLsbD vraBit then s.freeSemaphore
      else defaultStreamRate .pi (defaultStreamRate .po s.freeSemaphore)) =
      defaultUngated d .pi (defaultUngated d .po s.freeSemaphore) := by
    unfold defaultUngated rateGate
    split <;> rfl
  dsimp only [writeExtendedAudio]
  rw [hvra]
  rfl

theorem defaultUngated_of_clear {d : Word} {k : StreamId} (h : d.getLsbD (rateGate k) = false) (s : State) :
    defaultUngated d k s = reopen k (s.setMix (rateReg k) 0xBB80) :=
  if_neg (ne_true_of_eq_false h)

theorem defaultUngated_of_set {d : Word} {k : StreamId} (h : d.getLsbD (rateGate k) = true) (s : State) :
    defaultUngated d k s = s := if_pos h

/-- Whatever the default rate and the reopen keep, a stream's share keeps. -/
theorem defaultUngated_keeps {α : Type} {f : State → α} {k : StreamId}
    (hf : ∀ s, f (defaultStreamRate k s) = f s) (d : Word) (s : State) : f (defaultUngated d k s) = f s := by
  unfold defaultUngated
  split
  · rfl
  · exact hf s

theorem bankGet_defaultStreamRate_of_ne {k : StreamId} {q : BitVec 7} (h : q ≠ rateReg k) (s : State) :
    bankGet (defaultStreamRate k s).mix q = bankGet s.mix q := by
  rw [defaultStreamRate, reopen_mix]
  exact bankGet_bankSet_of_ne s.mix h _

theorem bankGet_defaultUngated_of_clear {d : Word} {k : StreamId} (h : d.getLsbD (rateGate k) = false) (s : State) :
    bankGet (defaultUngated d k s).mix (rateReg k) = 0xBB80 := by
  rw [defaultUngated_of_clear h, reopen_mix]
  exact bankGet_bankSet_self s.mix (rateReg k) _

/-- A stream's share leaves the other streams as they are. -/
theorem SameStream.defaultUngated_of_ne {j k : StreamId} (h : k ≠ j) (d : Word) (s : State) :
    SameStream k s (defaultUngated d j s) := by
  unfold defaultUngated
  split
  · exact .refl k s
  · exact .trans (.setMix (rateReg_ne_of_ne h) _ s) (.reopen_of_ne h _)

/-- A stream's share does the same to the stream in states that agree on it. -/
theorem SameStream.defaultUngated_congr {k : StreamId} {s t : State} (h : SameStream k s t) (d : Word) :
    SameStream k (defaultUngated d k s) (defaultUngated d k t) := by
  unfold defaultUngated
  split
  · exact h
  · have hset : SameStream k (s.setMix (rateReg k) defaultRate) (t.setMix (rateReg k) defaultRate) :=
      ⟨h.outside, h.runtime, (bankGet_bankSet_self _ _ _).trans (bankGet_bankSet_self _ _ _).symm⟩
    refine ⟨by simpa [KeepsOutside] using h.outside, hset.reopen_rt_get, ?_⟩
    rw [defaultStreamRate, defaultStreamRate, reopen_mix, reopen_mix]
    exact hset.rate

/-! ## The write of Extended Audio Control -/

theorem exec_out16NamExtAudioCtrl (d : Word) (s : State) :
    exec (.out16NamExtAudioCtrl d) s = .next (writeExtendedAudio d s) := rfl

/-- Seen from stream `k`, the write is the stream's own share (R208): the semaphore, the other streams' shares and the
store into Extended Audio Control itself are nothing that a reopen of `k` reads. -/
theorem writeExtendedAudio_sameStream (d : Word) (k : StreamId) (s : State) :
    SameStream k (defaultUngated d k s) (writeExtendedAudio d s) := by
  rw [writeExtendedAudio_eq]
  refine .trans ?_ (.setMix (rateReg_ne_extendedAudio k) d _)
  have hfree : SameStream k (defaultUngated d k s) (defaultUngated d k s.freeSemaphore) :=
    (SameStream.freeSemaphore k s).defaultUngated_congr d
  refine hfree.trans ?_
  cases k with
  | po => exact .trans (.defaultUngated_of_ne (by decide) d _) (.defaultUngated_of_ne (by decide) d _)
  | pi =>
    exact .trans ((SameStream.defaultUngated_of_ne (by decide) d _).defaultUngated_congr d)
      (.defaultUngated_of_ne (by decide) d _)
  | mc =>
    have hothers : SameStream .mc s.freeSemaphore (defaultUngated d .pi (defaultUngated d .po s.freeSemaphore)) :=
      .trans (.defaultUngated_of_ne (by decide) d _) (.defaultUngated_of_ne (by decide) d _)
    exact hothers.defaultUngated_congr d

/-- Whatever every stream's share keeps and the bank does not hold, the write keeps. -/
theorem writeExtendedAudio_keeps {α : Type} {f : State → α} (hset : ∀ s reg v, f (s.setMix reg v) = f s)
    (hf : ∀ k s, f (defaultStreamRate k s) = f s) (d : Word) (s : State) :
    f (writeExtendedAudio d s) = f s.freeSemaphore := by
  rw [writeExtendedAudio_eq, hset, defaultUngated_keeps (hf .mc), defaultUngated_keeps (hf .pi),
    defaultUngated_keeps (hf .po)]

theorem bankGet_writeExtendedAudio_self (d : Word) (s : State) : bankGet (writeExtendedAudio d s).mix 0x15 = d :=
  bankGet_bankSet_self _ _ d

theorem bankGet_writeExtendedAudio_of_ne {q : BitVec 7} (hq : q ≠ 0x15) (hrate : ∀ k, q ≠ rateReg k) (d : Word)
    (s : State) : bankGet (writeExtendedAudio d s).mix q = bankGet s.mix q := by
  have hkeep (k : StreamId) (u : State) : bankGet (defaultUngated d k u).mix q = bankGet u.mix q :=
    defaultUngated_keeps (f := fun u => bankGet u.mix q) (bankGet_defaultStreamRate_of_ne (hrate k)) d u
  rw [writeExtendedAudio_eq, State.setMix_mix, bankGet_bankSet_of_ne _ hq, hkeep, hkeep, hkeep, State.freeSemaphore_mix]

theorem bankGet_writeExtendedAudio_of_clear {d : Word} {k : StreamId} (h : d.getLsbD (rateGate k) = false) (s : State) :
    bankGet (writeExtendedAudio d s).mix (rateReg k) = 0xBB80 :=
  (writeExtendedAudio_sameStream d k s).rate.trans (bankGet_defaultUngated_of_clear h s)

theorem writeExtendedAudio_sameStream_of_set {d : Word} {k : StreamId} (h : d.getLsbD (rateGate k) = true) (s : State) :
    SameStream k s (writeExtendedAudio d s) := by
  simpa only [defaultUngated_of_set h] using writeExtendedAudio_sameStream d k s

/-- A stream whose gate bit is clear is left as its reopen at the new rate leaves it (R208). -/
theorem writeExtendedAudio_rt_of_clear {d : Word} {k : StreamId} (h : d.getLsbD (rateGate k) = false) (s : State) :
    (writeExtendedAudio d s).rt.get k = (reopen k { s with mix := (writeExtendedAudio d s).mix }).rt.get k := by
  have hsame : SameStream k { s with mix := (writeExtendedAudio d s).mix } (s.setMix (rateReg k) 0xBB80) :=
    ⟨⟨rfl, rfl, rfl, rfl, rfl, rfl⟩, rfl,
      (bankGet_bankSet_self _ _ _).trans (bankGet_writeExtendedAudio_of_clear h s).symm⟩
  rw [(writeExtendedAudio_sameStream d k s).runtime, defaultUngated_of_clear h]
  exact hsame.reopen_rt_get

theorem writeExtendedAudio_keepsOutside (d : Word) (s : State) : KeepsOutside s (writeExtendedAudio d s) :=
  ⟨writeExtendedAudio_keeps State.setMix_mem defaultStreamRate_mem d s,
    writeExtendedAudio_keeps State.setMix_racing defaultStreamRate_racing d s,
    writeExtendedAudio_keeps State.setMix_vnow defaultStreamRate_vnow d s,
    writeExtendedAudio_keeps State.setMix_cfg defaultStreamRate_cfg d s,
    writeExtendedAudio_keeps State.setMix_pending defaultStreamRate_pending d s,
    writeExtendedAudio_keeps State.setMix_host defaultStreamRate_host d s⟩

/-- Settles O22: each stream is as its own share of the write leaves it, and what no share touches is kept. -/
theorem extendedAudioControlDefaultsRates : Obligations.ExtendedAudioControlDefaultsRates := by
  intro d s
  refine ⟨_, exec_out16NamExtAudioCtrl d s, rfl, bankGet_writeExtendedAudio_self d s, fun hvra => ?_, fun hvra => ?_,
    fun hvrm => ?_, fun hvrm => ?_, fun k h => writeExtendedAudio_rt_of_clear h s, fun q hctl hpo hpi hmc => ?_, ?_, ?_,
    ?_, ?_, writeExtendedAudio_keepsOutside d s, ?_, ?_⟩
  · exact ⟨bankGet_writeExtendedAudio_of_clear (k := .po) hvra s, bankGet_writeExtendedAudio_of_clear (k := .pi) hvra s⟩
  · have hpo := writeExtendedAudio_sameStream_of_set (k := .po) hvra s
    have hpi := writeExtendedAudio_sameStream_of_set (k := .pi) hvra s
    exact ⟨hpo.rate, hpi.rate, hpo.runtime, hpi.runtime⟩
  · exact bankGet_writeExtendedAudio_of_clear (k := .mc) hvrm s
  · have hmc := writeExtendedAudio_sameStream_of_set (k := .mc) hvrm s
    exact ⟨hmc.rate, hmc.runtime⟩
  · refine bankGet_writeExtendedAudio_of_ne hctl (fun k => ?_) d s
    cases k with
    | pi => exact hpi
    | po => exact hpo
    | mc => exact hmc
  · exact writeExtendedAudio_keeps State.setMix_cas defaultStreamRate_cas d s
  · exact writeExtendedAudio_keeps State.setMix_regs defaultStreamRate_regs d s
  · exact writeExtendedAudio_keeps State.setMix_globCnt defaultStreamRate_globCnt d s
  · exact writeExtendedAudio_keeps State.setMix_globSta defaultStreamRate_globSta d s
  · exact writeExtendedAudio_keeps State.setMix_result defaultStreamRate_result d s
  · exact writeExtendedAudio_keeps State.setMix_draws defaultStreamRate_draws d s

end Sys2Proof.Machine
end

section
/-!
PROOFS. No step faults, and only a word that names no transaction is refused (R250, R88 (a)).
-/

namespace Sys2Proof.Machine

open Sys2Proof

/-- Every transaction has a meaning, and none faults (R250). -/
theorem exec_completes (i : Instr) (s : State) : ∃ t, exec i s = .next t :=
  let ⟨t, hexec, _⟩ := exec_deadlinesNotEarly i s
  ⟨t, hexec⟩

/-- Settles O49: of what `runEvent_cases` says the next event can do, only a word that the decoder refuses answers no
state. -/
theorem stepIsRefusedOnlyForBadWords : Obligations.StepIsRefusedOnlyForBadWords := by
  intro s
  rcases runEvent_cases (nextEvent s) (takeEvent s) with ⟨i, hrun⟩ | hrun | ⟨a, -, hrun⟩ | ⟨t, d, why, hport, hbad, hrun⟩
  · obtain ⟨t, hexec⟩ := exec_completes i (takeEvent s)
    exact .inl ⟨t, hrun.trans hexec⟩
  · exact .inl ⟨_, hrun⟩
  · exact .inl ⟨_, hrun⟩
  · exact .inr ⟨t, d, why, hport, hbad, hrun⟩

end Sys2Proof.Machine
end

section
/-!
PROOFS. The decoder and the encoder are inverse to each other (R80, R82, R86, R87), and the words that the decoder
refuses (R88 (a)).
-/

namespace Sys2Proof

/-! ## The columns of R82 and R198: an offset without a row of its own is the catch-all's -/

theorem nabmRead8_of_not_decoded {off : BitVec 6} (h : nabmByteDecoded off = false) :
    nabmRead8 off = .in8NabmUnsupported off := by
  unfold nabmRead8
  split <;> simp_all [nabmByteDecoded, inStreamBlock, streamByteOffsets]

theorem nabmRead16_of_not_decoded {off : BitVec 6} (h : nabmWordDecoded off = false) :
    nabmRead16 off = .in16NabmUnsupported off := by
  unfold nabmRead16
  split <;> simp_all [nabmWordDecoded, inStreamBlock, streamWordOffsets]

theorem nabmRead32_of_not_decoded {off : BitVec 6} (h : nabmDwordReadDecoded off = false) :
    nabmRead32 off = .in32NabmUnsupported off := by
  unfold nabmRead32
  split <;> simp_all [nabmDwordReadDecoded, inStreamBlock, streamDwordReadOffsets]

theorem nabmWrite8_of_not_decoded {off : BitVec 6} (h : nabmByteDecoded off = false) (d : Byte) :
    nabmWrite8 off d = .out8NabmUnsupported off d := by
  unfold nabmWrite8
  split <;> simp_all [nabmByteDecoded, inStreamBlock, streamByteOffsets]

theorem nabmWrite16_of_not_decoded {off : BitVec 6} (h : nabmWordDecoded off = false) (d : Word) :
    nabmWrite16 off d = .out16NabmUnsupported off d := by
  unfold nabmWrite16
  split <;> simp_all [nabmWordDecoded, inStreamBlock, streamWordOffsets]

theorem nabmWrite32_of_not_decoded {off : BitVec 6} (h : nabmDwordWriteDecoded off = false) (d : Dword) :
    nabmWrite32 off d = .out32NabmUnsupported off d := by
  unfold nabmWrite32
  split <;> simp_all [nabmDwordWriteDecoded, inStreamBlock, streamDwordWriteOffsets]

theorem namWrite16_of_not_named {reg : BitVec 7} (h : mixerNamed reg = false) (d : Word) :
    namWrite16 reg d = .out16NamReg reg d := by
  unfold namWrite16
  split <;> simp_all [mixerNamed, namedMixerOffsets]

/-! ## Decoding what was encoded, by column -/

/-- The data of a narrow write is zero-extended and cut back (R86). -/
theorem setWidth_32_setWidth {w : Nat} (d : BitVec w) (h : w ≤ 32) : (d.setWidth 32).setWidth w = d := by
  rw [BitVec.setWidth_setWidth_of_le d h, BitVec.setWidth_eq]

section
variable {off : BitVec 8} (h : off.toNat < 0x40)
include h

theorem decode_read8 : decode (encodeWord false false 0 off) 0 = .ok (nabmRead8 (off.setWidth 6)) :=
  decode_encodeWord_nabm false 0 off 0 (by decide) h

theorem decode_read16 : decode (encodeWord false false 1 off) 0 = .ok (nabmRead16 (off.setWidth 6)) :=
  decode_encodeWord_nabm false 1 off 0 (by decide) h

theorem decode_read32 : decode (encodeWord false false 2 off) 0 = .ok (nabmRead32 (off.setWidth 6)) :=
  decode_encodeWord_nabm false 2 off 0 (by decide) h

theorem decode_write8 (d : Byte) :
    decode (encodeWord true false 0 off) (d.setWidth 32) = .ok (nabmWrite8 (off.setWidth 6) d) :=
  (decode_encodeWord_nabm true 0 off _ (by decide) h).trans
    (congrArg (fun d => Except.ok (nabmWrite8 _ d)) (setWidth_32_setWidth d (by decide)))

theorem decode_write16 (d : Word) :
    decode (encodeWord true false 1 off) (d.setWidth 32) = .ok (nabmWrite16 (off.setWidth 6) d) :=
  (decode_encodeWord_nabm true 1 off _ (by decide) h).trans
    (congrArg (fun d => Except.ok (nabmWrite16 _ d)) (setWidth_32_setWidth d (by decide)))

theorem decode_write32 (d : Dword) :
    decode (encodeWord true false 2 off) d = .ok (nabmWrite32 (off.setWidth 6) d) :=
  decode_encodeWord_nabm true 2 off d (by decide) h

end

/-- A bus-master offset of six bits is its own low six bits. -/
theorem setWidth_8_setWidth_6 (off : BitVec 6) : (off.setWidth 8).setWidth 6 = off := by
  rw [BitVec.setWidth_setWidth_of_le off (by decide), BitVec.setWidth_eq]

theorem toNat_setWidth_8_lt (off : BitVec 6) : (off.setWidth 8).toNat < 0x40 := by
  rw [BitVec.toNat_setWidth_of_le (by decide)]
  exact off.isLt

/-- The register number of a mixer offset (R195). -/
theorem extractLsb'_append_bit (reg : BitVec 7) (b : Bool) : (reg ++ BitVec.ofBool b).extractLsb' 1 7 = reg :=
  BitVec.extractLsb'_append_eq_left

/-- The bit that makes a mixer offset odd (R196). -/
theorem getLsbD_append_bit (reg : BitVec 7) (b : Bool) : (reg ++ BitVec.ofBool b).getLsbD 0 = b := by
  rw [BitVec.getLsbD_append]
  cases b <;> rfl

theorem decode_mixerRead16 (off : BitVec 8) :
    decode (encodeWord false true 1 off) 0 =
      .ok (bif off.getLsbD 0 then .in16NamOdd (off.extractLsb' 1 7) else .in16NamReg (off.extractLsb' 1 7)) :=
  decode_encodeWord_nam false 1 off 0 (by decide)

theorem decode_mixerWrite16 (off : BitVec 8) (d : Word) :
    decode (encodeWord true true 1 off) (d.setWidth 32) =
      .ok (bif off.getLsbD 0 then .out16NamOdd (off.extractLsb' 1 7) d else namWrite16 (off.extractLsb' 1 7) d) :=
  (decode_encodeWord_nam true 1 off _ (by decide)).trans
    (congrArg (fun d => Except.ok (bif off.getLsbD 0 then Instr.out16NamOdd _ d else namWrite16 _ d))
      (setWidth_32_setWidth d (by decide)))

/-- Settles O44: each row by the column it is read in. A row of its own stands at a fixed offset, where the column
evaluates; a catch-all row stands where the column has nothing else, by its well-formedness. -/
theorem decodeEncodeAgree : Obligations.DecodeEncodeAgree := by
  intro i hi
  cases i
  case in32NabmPiBdbar | in32NabmPiCiv | in32NabmPiPicb | in32NabmPoBdbar | in32NabmPoCiv | in32NabmPoPicb
      | in32NabmMcBdbar | in32NabmMcCiv | in32NabmMcPicb | in32NabmGlobCnt | in32NabmGlobSta =>
    exact decode_read32 (by decide)
  case out32NabmPiBdbar | out32NabmPoBdbar | out32NabmMcBdbar | out32NabmGlobCnt | out32NabmGlobSta =>
    exact decode_write32 (by decide) _
  case in8NabmPiCiv | in8NabmPiLvi | in8NabmPiSr | in8NabmPiPiv | in8NabmPiCr | in8NabmPoCiv | in8NabmPoLvi
      | in8NabmPoSr | in8NabmPoPiv | in8NabmPoCr | in8NabmMcCiv | in8NabmMcLvi | in8NabmMcSr | in8NabmMcPiv
      | in8NabmMcCr | in8NabmCas =>
    exact decode_read8 (by decide)
  case out8NabmPiCiv | out8NabmPiLvi | out8NabmPiSr | out8NabmPiPiv | out8NabmPiCr | out8NabmPoCiv
      | out8NabmPoLvi | out8NabmPoSr | out8NabmPoPiv | out8NabmPoCr | out8NabmMcCiv | out8NabmMcLvi
      | out8NabmMcSr | out8NabmMcPiv | out8NabmMcCr | out8NabmCas =>
    exact decode_write8 (by decide) _
  case in16NabmPiSr | in16NabmPiPicb | in16NabmPoSr | in16NabmPoPicb | in16NabmMcSr | in16NabmMcPicb =>
    exact decode_read16 (by decide)
  case out16NabmPiSr | out16NabmPiPicb | out16NabmPoSr | out16NabmPoPicb | out16NabmMcSr | out16NabmMcPicb =>
    exact decode_write16 (by decide) _
  case out16NamReset | out16NamMasterVol | out16NamHeadphoneVol | out16NamMicVol | out16NamLineInVol
      | out16NamPcmOutVol | out16NamRecordSelect | out16NamRecordGain | out16NamRecordGainMic
      | out16NamPowerdown | out16NamExtAudioId | out16NamExtAudioCtrl | out16NamPcmFrontDacRate
      | out16NamPcmLrAdcRate | out16NamMicAdcRate | out16NamVendorId1 | out16NamVendorId2 =>
    exact decode_mixerWrite16 _ _
  case in8NabmUnsupported off =>
    refine (decode_read8 (toNat_setWidth_8_lt off)).trans ?_
    rw [setWidth_8_setWidth_6, nabmRead8_of_not_decoded (Bool.not_eq_true' _ ▸ hi)]
  case in16NabmUnsupported off =>
    refine (decode_read16 (toNat_setWidth_8_lt off)).trans ?_
    rw [setWidth_8_setWidth_6, nabmRead16_of_not_decoded (Bool.not_eq_true' _ ▸ hi)]
  case in32NabmUnsupported off =>
    refine (decode_read32 (toNat_setWidth_8_lt off)).trans ?_
    rw [setWidth_8_setWidth_6, nabmRead32_of_not_decoded (Bool.not_eq_true' _ ▸ hi)]
  case out8NabmUnsupported off d =>
    refine (decode_write8 (toNat_setWidth_8_lt off) d).trans ?_
    rw [setWidth_8_setWidth_6, nabmWrite8_of_not_decoded (Bool.not_eq_true' _ ▸ hi)]
  case out16NabmUnsupported off d =>
    refine (decode_write16 (toNat_setWidth_8_lt off) d).trans ?_
    rw [setWidth_8_setWidth_6, nabmWrite16_of_not_decoded (Bool.not_eq_true' _ ▸ hi)]
  case out32NabmUnsupported off d =>
    refine (decode_write32 (toNat_setWidth_8_lt off) d).trans ?_
    rw [setWidth_8_setWidth_6, nabmWrite32_of_not_decoded (Bool.not_eq_true' _ ▸ hi)]
  case in16NamReg reg =>
    refine (decode_mixerRead16 (reg ++ BitVec.ofBool false)).trans ?_
    rw [getLsbD_append_bit, extractLsb'_append_bit, cond_false]
  case in16NamOdd reg =>
    refine (decode_mixerRead16 (reg ++ BitVec.ofBool true)).trans ?_
    rw [getLsbD_append_bit, extractLsb'_append_bit, cond_true]
  case out16NamReg reg d =>
    refine (decode_mixerWrite16 (reg ++ BitVec.ofBool false) d).trans ?_
    rw [getLsbD_append_bit, extractLsb'_append_bit, cond_false, namWrite16_of_not_named (Bool.not_eq_true' _ ▸ hi)]
  case out16NamOdd reg d =>
    refine (decode_mixerWrite16 (reg ++ BitVec.ofBool true) d).trans ?_
    rw [getLsbD_append_bit, extractLsb'_append_bit, cond_true]
  case in8NamUnsupported off => exact decode_encodeWord_nam false 0 off 0 (by decide)
  case in32NamUnsupported off => exact decode_encodeWord_nam false 2 off 0 (by decide)
  case out8NamUnsupported off d =>
    exact (decode_encodeWord_nam true 0 off _ (by decide)).trans
      (congrArg (fun d => Except.ok (Instr.out8NamUnsupported off d)) (setWidth_32_setWidth d (by decide)))
  case out32NamUnsupported off d => exact decode_encodeWord_nam true 2 off d (by decide)

/-! ## What a column answers is a row of the offset's word -/

/-- An even mixer offset by its register number (R195). -/
theorem append_zero_eq_ofNat (reg : BitVec 7) : reg ++ 0#1 = BitVec.ofNat 8 (2 * reg.toNat) := by
  apply BitVec.eq_of_toNat_eq
  have := reg.isLt
  rw [BitVec.toNat_append, BitVec.toNat_ofNat, BitVec.toNat_ofNat, Nat.shiftLeft_eq, Nat.zero_mod, Nat.or_zero]
  omega

/-- The instruction is a transaction, and `t` is its word. -/
abbrev Instr.IsRowOf (t : Word) (i : Instr) : Prop := i.WellFormed ∧ i.word = t

theorem nabmRead8_isRowOf (off : BitVec 6) :
    (nabmRead8 off).IsRowOf (encodeWord false false 0 (off.setWidth 8)) := by
  rw [← BitVec.ofNat_toNat]
  unfold nabmRead8
  split
  case h_17 =>
    refine ⟨?_, by simp [Instr.word]⟩
    simp_all [Instr.WellFormed, Instr.wellFormed, nabmByteDecoded, inStreamBlock, streamByteOffsets]
    omega
  all_goals
    rename_i h
    rw [h]
    exact ⟨rfl, rfl⟩

theorem nabmRead16_isRowOf (off : BitVec 6) :
    (nabmRead16 off).IsRowOf (encodeWord false false 1 (off.setWidth 8)) := by
  rw [← BitVec.ofNat_toNat]
  unfold nabmRead16
  split
  case h_7 =>
    refine ⟨?_, by simp [Instr.word]⟩
    simp_all [Instr.WellFormed, Instr.wellFormed, nabmWordDecoded, inStreamBlock, streamWordOffsets]
    omega
  all_goals
    rename_i h
    rw [h]
    exact ⟨rfl, rfl⟩

theorem nabmRead32_isRowOf (off : BitVec 6) :
    (nabmRead32 off).IsRowOf (encodeWord false false 2 (off.setWidth 8)) := by
  rw [← BitVec.ofNat_toNat]
  unfold nabmRead32
  split
  case h_12 =>
    refine ⟨?_, by simp [Instr.word]⟩
    simp_all [Instr.WellFormed, Instr.wellFormed, nabmDwordReadDecoded, inStreamBlock, streamDwordReadOffsets]
    omega
  all_goals
    rename_i h
    rw [h]
    exact ⟨rfl, rfl⟩

theorem nabmWrite8_isRowOf (off : BitVec 6) (d : Byte) :
    (nabmWrite8 off d).IsRowOf (encodeWord true false 0 (off.setWidth 8)) := by
  rw [← BitVec.ofNat_toNat]
  unfold nabmWrite8
  split
  case h_17 =>
    refine ⟨?_, by simp [Instr.word]⟩
    simp_all [Instr.WellFormed, Instr.wellFormed, nabmByteDecoded, inStreamBlock, streamByteOffsets]
    omega
  all_goals
    rename_i h
    rw [h]
    exact ⟨rfl, rfl⟩

theorem nabmWrite16_isRowOf (off : BitVec 6) (d : Word) :
    (nabmWrite16 off d).IsRowOf (encodeWord true false 1 (off.setWidth 8)) := by
  rw [← BitVec.ofNat_toNat]
  unfold nabmWrite16
  split
  case h_7 =>
    refine ⟨?_, by simp [Instr.word]⟩
    simp_all [Instr.WellFormed, Instr.wellFormed, nabmWordDecoded, inStreamBlock, streamWordOffsets]
    omega
  all_goals
    rename_i h
    rw [h]
    exact ⟨rfl, rfl⟩

theorem nabmWrite32_isRowOf (off : BitVec 6) (d : Dword) :
    (nabmWrite32 off d).IsRowOf (encodeWord true false 2 (off.setWidth 8)) := by
  rw [← BitVec.ofNat_toNat]
  unfold nabmWrite32
  split
  case h_6 =>
    refine ⟨?_, by simp [Instr.word]⟩
    simp_all [Instr.WellFormed, Instr.wellFormed, nabmDwordWriteDecoded, inStreamBlock, streamDwordWriteOffsets]
    omega
  all_goals
    rename_i h
    rw [h]
    exact ⟨rfl, rfl⟩

theorem namWrite16_isRowOf (reg : BitVec 7) (d : Word) :
    (namWrite16 reg d).IsRowOf (encodeWord true true 1 (reg ++ 0#1)) := by
  rw [append_zero_eq_ofNat]
  unfold namWrite16
  split
  case h_18 =>
    refine ⟨?_, by rw [Instr.word, append_zero_eq_ofNat]⟩
    simp_all [Instr.WellFormed, Instr.wellFormed, mixerNamed, namedMixerOffsets]
  all_goals
    rename_i h
    rw [h]
    exact ⟨rfl, rfl⟩

/-! ## The rows by region -/

theorem decodeNabm_isRowOf (write : Bool) {w : BitVec 2} (hw : w ≠ 3) (off : BitVec 6) (d : Dword) :
    (decodeNabm write w off d).IsRowOf (encodeWord write false w (off.setWidth 8)) := by
  have hcases : w = 0 ∨ w = 1 ∨ w = 2 := by revert hw; revert w; decide
  rcases hcases with rfl | rfl | rfl <;> cases write
  · exact nabmRead8_isRowOf off
  · exact nabmWrite8_isRowOf off _
  · exact nabmRead16_isRowOf off
  · exact nabmWrite16_isRowOf off _
  · exact nabmRead32_isRowOf off
  · exact nabmWrite32_isRowOf off d

/-- A mixer offset is a register number and the bit that makes it odd (R195, R196). -/
theorem extractLsb'_append_getLsbD (off : BitVec 8) :
    off.extractLsb' 1 7 ++ BitVec.ofBool (off.getLsbD 0) = off := by
  revert off
  decide

theorem decodeNam_isRowOf (write : Bool) {w : BitVec 2} (hw : w ≠ 3) (off : BitVec 8) (d : Dword) :
    (decodeNam write w off d).IsRowOf (encodeWord write true w off) := by
  have hcases : w = 0 ∨ w = 1 ∨ w = 2 := by revert hw; revert w; decide
  have hoff := extractLsb'_append_getLsbD off
  rcases hcases with rfl | rfl | rfl
  case inl => cases write <;> exact ⟨rfl, rfl⟩
  case inr.inr => cases write <;> exact ⟨rfl, rfl⟩
  cases hodd : off.getLsbD 0 with
  | true =>
    rw [hodd] at hoff
    have hword (wr : Bool) : encodeWord wr true 1 (off.extractLsb' 1 7 ++ 1#1) = encodeWord wr true 1 off :=
      congrArg _ hoff
    have hread : decodeNam false 1 off d = .in16NamOdd (off.extractLsb' 1 7) := congrArg (cond · _ _) hodd
    have hwrite : decodeNam true 1 off d = .out16NamOdd (off.extractLsb' 1 7) (d.setWidth 16) :=
      congrArg (cond · _ _) hodd
    cases write with
    | false => rw [hread]; exact ⟨rfl, hword false⟩
    | true => rw [hwrite]; exact ⟨rfl, hword true⟩
  | false =>
    rw [hodd] at hoff
    have hword (wr : Bool) : encodeWord wr true 1 (off.extractLsb' 1 7 ++ 0#1) = encodeWord wr true 1 off :=
      congrArg _ hoff
    have hread : decodeNam false 1 off d = .in16NamReg (off.extractLsb' 1 7) := congrArg (cond · _ _) hodd
    have hwrite : decodeNam true 1 off d = namWrite16 (off.extractLsb' 1 7) (d.setWidth 16) :=
      congrArg (cond · _ _) hodd
    cases write with
    | false => rw [hread]; exact ⟨rfl, hword false⟩
    | true => rw [hwrite, ← hword]; exact namWrite16_isRowOf _ _

/-! ## A word is its fields -/

/-- A word whose reserved bits are 0 is what the encoder makes of its fields (R80). -/
theorem encodeWord_fields {t : Word} (h : reservedField t = 0) :
    encodeWord (isWriteWord t) (isMixerWord t) (widthField t) (offsetField t) = t := by
  have hreserved : ∀ i < 4, t.getLsbD (8 + i) = false := fun i hi => by
    simpa [reservedField, hi] using congrArg (·.getLsbD i) h
  refine BitVec.eq_of_getLsbD_eq fun i hi => ?_
  rw [getLsbD_encodeWord]
  split
  · rename_i hoff
    simp [offsetField, hoff]
  split
  · have := hreserved (i - 8) (by omega)
    rwa [show 8 + (i - 8) = i by omega, eq_comm] at this
  split
  · simp [widthField, show i - 12 < 2 by omega, show 12 + (i - 12) = i by omega]
  split
  · rename_i h14
    rw [h14]
    rfl
  · rw [if_pos (by omega), show i = 15 by omega]
    rfl

/-- Which words are refused, and what the others are: a mixer or a bus-master transaction of their fields (R80,
R88 (a)). -/
theorem decode_cases (t : Word) (d : Dword) :
    (widthField t = 3 ∨ reservedField t ≠ 0 ∨ isMixerWord t = false ∧ 0x40 ≤ (offsetField t).toNat) ∧
        (∃ e, decode t d = .error e) ∨
      (widthField t ≠ 3 ∧ reservedField t = 0) ∧
        ((isMixerWord t = true ∧ decode t d = .ok (decodeNam (isWriteWord t) (widthField t) (offsetField t) d)) ∨
          (isMixerWord t = false ∧ (offsetField t).toNat < 0x40 ∧
            decode t d = .ok (decodeNabm (isWriteWord t) (widthField t) ((offsetField t).setWidth 6) d))) := by
  by_cases hw : widthField t = 3
  · exact .inl ⟨.inl hw, _, if_pos hw⟩
  by_cases hr : reservedField t = 0
  swap
  · exact .inl ⟨.inr (.inl hr), _, (if_neg hw).trans (if_pos hr)⟩
  cases hm : isMixerWord t with
  | true =>
    refine .inr ⟨⟨hw, hr⟩, .inl ⟨rfl, ?_⟩⟩
    rw [decode, if_neg hw, if_neg (not_not.2 hr), hm, cond_true]
  | false =>
    have hdecode : decode t d = if (offsetField t).toNat < 0x40 then
        .ok (decodeNabm (isWriteWord t) (widthField t) ((offsetField t).setWidth 6) d) else .error .nabmOffset := by
      rw [decode, if_neg hw, if_neg (not_not.2 hr), hm, cond_false]
    by_cases ho : (offsetField t).toNat < 0x40
    · exact .inr ⟨⟨hw, hr⟩, .inr ⟨rfl, ho, hdecode.trans (if_pos ho)⟩⟩
    · exact .inl ⟨.inr (.inr ⟨rfl, by omega⟩), _, hdecode.trans (if_neg ho)⟩

/-- Settles O45: what a column or the mixer dispatch answers is a row of the word's fields, and the word is its
fields. -/
theorem decodedWordIsItsOwn : Obligations.DecodedWordIsItsOwn := by
  intro t d i hi
  rcases decode_cases t d with ⟨-, e, he⟩ | ⟨⟨hw, hr⟩, ⟨hm, hok⟩ | ⟨hm, ho, hok⟩⟩
  · cases he.symm.trans hi
  · obtain rfl := Except.ok.inj (hok.symm.trans hi)
    have hrow := decodeNam_isRowOf (isWriteWord t) hw (offsetField t) d
    rwa [← hm, encodeWord_fields hr] at hrow
  · obtain rfl := Except.ok.inj (hok.symm.trans hi)
    have hrow := decodeNabm_isRowOf (isWriteWord t) hw ((offsetField t).setWidth 6) d
    have hoff : ((offsetField t).setWidth 6).setWidth 8 = offsetField t :=
      BitVec.eq_of_toNat_eq (by simp; omega)
    rwa [hoff, ← hm, encodeWord_fields hr] at hrow

theorem widthField_eq_three_iff (t : Word) : widthField t = 3 ↔ t.toNat / 4096 % 4 = 3 := by
  rw [← BitVec.toNat_inj, widthField, BitVec.extractLsb'_toNat, Nat.shiftRight_eq_div_pow]
  rfl

theorem reservedField_eq_zero_iff (t : Word) : reservedField t = 0 ↔ t.toNat / 256 % 16 = 0 := by
  rw [← BitVec.toNat_inj, reservedField, BitVec.extractLsb'_toNat, Nat.shiftRight_eq_div_pow]
  rfl

theorem offsetField_toNat (t : Word) : (offsetField t).toNat = t.toNat % 256 := by
  rw [offsetField, BitVec.extractLsb'_toNat, Nat.shiftRight_zero]

/-- Settles O46: the refusals of `decode_cases`, with the fields as quotients and remainders of the word. -/
theorem refusedWordsNameNoTransaction : Obligations.RefusedWordsNameNoTransaction := by
  intro t d
  rw [← widthField_eq_three_iff, ne_eq, ← reservedField_eq_zero_iff, ← offsetField_toNat]
  rcases decode_cases t d with ⟨hbad, he⟩ | ⟨⟨hw, hr⟩, hgood⟩
  · exact iff_of_true he hbad
  · refine iff_of_false ?_ ?_
    · rintro ⟨e, he⟩
      rcases hgood with ⟨-, hok⟩ | ⟨-, -, hok⟩ <;> cases he.symm.trans hok
    · rintro (h | h | ⟨hm, ho⟩)
      · exact hw h
      · exact h hr
      · rcases hgood with ⟨hm', -⟩ | ⟨-, ho', -⟩
        · cases hm.symm.trans hm'
        · omega

/-- Settles O47: the decoder runs on the ten words. -/
theorem sampleWordsDecode : Obligations.SampleWordsDecode := by
  unfold Obligations.SampleWordsDecode
  decide

end Sys2Proof
end

section
/-!
PROOFS. What a port transaction can do: the operations it is made of, and the induction over them. What each of them
keeps, every transaction keeps (R67, R250).
-/

namespace Sys2Proof.Machine

open Sys2Proof

/-! ## The operations of a transaction -/

/-- From `s` to `t` only the codec bank, the port's answer, the draws and the host's log change, and the semaphore may
be set free. -/
structure QuietStep (s t : State) : Prop where
  regs : t.regs = s.regs
  rt : t.rt = s.rt
  globCnt : t.globCnt = s.globCnt
  globSta : t.globSta = s.globSta
  cas : t.cas = s.cas ∨ t.cas = 0
  outside : KeepsOutside s t

theorem QuietStep.freeSemaphore (s : State) : QuietStep s s.freeSemaphore :=
  ⟨rfl, rfl, rfl, rfl, .inr rfl, rfl, rfl, rfl, rfl, rfl, rfl⟩

theorem QuietStep.setMix (reg : BitVec 7) (v : Word) (s : State) : QuietStep s (s.setMix reg v) :=
  ⟨rfl, rfl, rfl, rfl, .inl rfl, rfl, rfl, rfl, rfl, rfl, rfl⟩

/-- A CR write with RPBM to a running stream only stores CR (R114). -/
theorem writeCr_of_running {d : Byte} (hrr : d.getLsbD 1 = false) (hrun : d.getLsbD 0 = true) {k : StreamId} {s : State}
    (hdch : (s.regs.get k).sr.getLsbD 0 = false) :
    writeCr k d s = s.modRegs k fun r => { r with cr := crOperand d } := by
  have hreset : crResets d = false := hrr
  have hruns : crRuns d = true := hrun
  have hhalted : isHalted (s.regs.get k).sr = false := hdch
  simp [writeCr, hreset, hruns, hhalted]

/-- `P` is kept by every operation that a port transaction is made of. -/
structure KeptByPorts (P : State → Prop) : Prop where
  quiet : ∀ {s t}, QuietStep s t → P s → P t
  base : ∀ k d {s}, P s → P (writeBdbar k d s)
  lastValid : ∀ k d {s}, P s → P (writeLvi k d s)
  status : ∀ k d {s}, P s → P (writeSr k d s)
  streamReset : ∀ k {s}, P s → P (streamReset k s)
  stop : ∀ k {d s}, d.getLsbD 1 = false → d.getLsbD 0 = false → P s → P (stopStream k d s)
  start : ∀ k {d s}, d.getLsbD 1 = false → d.getLsbD 0 = true → (s.regs.get k).sr.getLsbD 0 = true →
    P s → P (startStream k d s)
  control : ∀ k {d s}, d.getLsbD 1 = false → d.getLsbD 0 = true → (s.regs.get k).sr.getLsbD 0 = false →
    P s → P (s.modRegs k fun r => { r with cr := crOperand d })
  globCnt : ∀ d {s}, P s → P (writeGlobCnt d s)
  globSta : ∀ d {s}, P s → P (writeGlobSta d s)
  reopen : ∀ k {s}, P s → P (reopen k s)
  deviceReset : ∀ {s}, P s → P (deviceReset s)

/-! ## The induction -/

section
variable {P : State → Prop} {s : State}

/-- A control write is one of R111 to R114. -/
theorem KeptByPorts.writeCr (hP : KeptByPorts P) (k : StreamId) (d : Byte) (h : P s) : P (writeCr k d s) := by
  cases hrr : d.getLsbD 1 with
  | true => rw [writeCr_of_reset hrr]; exact hP.streamReset k h
  | false =>
    cases hrun : d.getLsbD 0 with
    | false => rw [writeCr_of_stop hrr hrun]; exact hP.stop k hrr hrun h
    | true =>
      cases hdch : (s.regs.get k).sr.getLsbD 0 with
      | true => rw [writeCr_of_start hrr hrun hdch]; exact hP.start k hrr hrun hdch h
      | false => rw [writeCr_of_running hrr hrun hdch]; exact hP.control k hrr hrun hdch h

theorem KeptByPorts.writeRate (hP : KeptByPorts P) (k : StreamId) (d : Word) (h : P s) : P (writeRate k d s) := by
  have hfree : P s.freeSemaphore := hP.quiet (.freeSemaphore s) h
  unfold Machine.writeRate
  split
  · exact hP.reopen k (hP.quiet (.setMix _ d _) hfree)
  · exact hfree

theorem KeptByPorts.defaultUngated (hP : KeptByPorts P) (d : Word) (k : StreamId) (h : P s) :
    P (defaultUngated d k s) := by
  unfold Machine.defaultUngated
  split
  · exact h
  · exact hP.reopen k (hP.quiet (.setMix _ _ s) h)

theorem KeptByPorts.writeExtendedAudio (hP : KeptByPorts P) (d : Word) (h : P s) : P (writeExtendedAudio d s) := by
  rw [writeExtendedAudio_eq]
  refine hP.quiet (.setMix _ d _) (hP.defaultUngated d .mc (hP.defaultUngated d .pi (hP.defaultUngated d .po ?_)))
  exact hP.quiet (.freeSemaphore s) h

/-- Every transaction completes and keeps what its operations keep: those of the bus-master region that write a register
are named, then those of the codec that do more than store; every other one is quiet. -/
theorem KeptByPorts.exec (hP : KeptByPorts P) (i : Instr) (h : P s) : ∃ t, exec i s = .next t ∧ P t := by
  cases i
  case out32NabmPiBdbar d | out32NabmPoBdbar d | out32NabmMcBdbar d => exact ⟨_, rfl, hP.base _ d h⟩
  case out8NabmPiLvi d | out8NabmPoLvi d | out8NabmMcLvi d => exact ⟨_, rfl, hP.lastValid _ d h⟩
  case out8NabmPiSr d | out8NabmPoSr d | out8NabmMcSr d => exact ⟨_, rfl, hP.status _ (srByteOperand d) h⟩
  case out16NabmPiSr d | out16NabmPoSr d | out16NabmMcSr d => exact ⟨_, rfl, hP.status _ d h⟩
  case out8NabmPiCr d | out8NabmPoCr d | out8NabmMcCr d => exact ⟨_, rfl, hP.writeCr _ d h⟩
  case out32NabmGlobCnt d => exact ⟨_, rfl, hP.globCnt d h⟩
  case out32NabmGlobSta d => exact ⟨_, rfl, hP.globSta d h⟩
  case out16NamReset d => exact ⟨_, rfl, hP.deviceReset (hP.quiet (.freeSemaphore s) h)⟩
  case out16NamExtAudioCtrl d => exact ⟨_, rfl, hP.writeExtendedAudio d h⟩
  case out16NamPcmFrontDacRate d | out16NamPcmLrAdcRate d | out16NamMicAdcRate d =>
    exact ⟨_, rfl, hP.writeRate _ d h⟩
  case in8NabmCas | in16NamReg | out16NamReg | out16NamMasterVol | out16NamHeadphoneVol | out16NamMicVol
    | out16NamLineInVol | out16NamPcmOutVol | out16NamRecordSelect | out16NamRecordGain | out16NamRecordGainMic
    | out16NamPowerdown | out16NamExtAudioId | out16NamVendorId1 | out16NamVendorId2 =>
    exact ⟨_, rfl, hP.quiet (s := s) ⟨rfl, rfl, rfl, rfl, .inr rfl, rfl, rfl, rfl, rfl, rfl, rfl⟩ h⟩
  all_goals exact ⟨_, rfl, hP.quiet (s := s) ⟨rfl, rfl, rfl, rfl, .inl rfl, rfl, rfl, rfl, rfl, rfl, rfl⟩ h⟩

/-- What the operations of a transaction keep, a step keeps, if it keeps it where it is another agent's. -/
theorem KeptByPorts.step (hP : KeptByPorts P) {t : State} (hstep : step s = .next t) (h : P (takeEvent s))
    (hagent : ∀ a, nextEvent s = .agent a → P (agentStep a (takeEvent s))) : P t := by
  rcases runEvent_cases (nextEvent s) (takeEvent s) with ⟨i, hrun⟩ | hrun | ⟨a, he, hrun⟩ | ⟨w, d, why, -, -, hrun⟩
  · obtain ⟨u, hexec, hu⟩ := hP.exec i h
    obtain rfl := Host.Outcome.next.inj (hstep.symm.trans (hrun.trans hexec))
    exact hu
  · obtain rfl := Host.Outcome.next.inj (hstep.symm.trans hrun)
    exact h
  · obtain rfl := Host.Outcome.next.inj (hstep.symm.trans hrun)
    exact hagent a he
  · cases hstep.symm.trans hrun

end

/-! ## What lies outside the device -/

theorem KeepsOutside.trans {s t u : State} (hst : KeepsOutside s t) (htu : KeepsOutside t u) : KeepsOutside s u := by
  obtain ⟨hmem, hracing, hvnow, hcfg, hpending, hhost⟩ := hst
  obtain ⟨hmem', hracing', hvnow', hcfg', hpending', hhost'⟩ := htu
  exact ⟨hmem'.trans hmem, hracing'.trans hracing, hvnow'.trans hvnow, hcfg'.trans hcfg, hpending'.trans hpending,
    hhost'.trans hhost⟩

theorem KeepsOutside.refl (s : State) : KeepsOutside s s := ⟨rfl, rfl, rfl, rfl, rfl, rfl⟩

theorem writeLvi_keepsOutside (k : StreamId) (d : Byte) (s : State) : KeepsOutside s (writeLvi k d s) := by
  simp only [writeLvi]
  split <;> exact .refl s

theorem writeGlobCnt_keepsOutside (d : Dword) (s : State) : KeepsOutside s (writeGlobCnt d s) := by
  unfold writeGlobCnt
  split <;> exact .refl s

/-- No operation of a transaction touches what lies outside the device, so each keeps whatever depends on that alone. -/
theorem keptByPorts_of_keepsOutside {P : State → Prop} (hP : ∀ {s t}, KeepsOutside s t → P s → P t) :
    KeptByPorts P where
  quiet hq h := hP hq.outside h
  base _ _ u h := hP (.refl u) h
  lastValid k d u h := hP (writeLvi_keepsOutside k d u) h
  status _ _ u h := hP (.refl u) h
  streamReset _ u h := hP (.refl u) h
  stop _ _ u _ _ h := hP (.refl u) h
  start k _ u _ _ _ h := hP (KeepsOutside.trans (.refl u) (enable_keepsOutside k _)) h
  control _ _ u _ _ _ h := hP (.refl u) h
  globCnt d u h := hP (writeGlobCnt_keepsOutside d u) h
  globSta _ u h := hP (.refl u) h
  reopen k u h := hP (reopen_keepsOutside k u) h
  deviceReset h := hP (deviceReset_keepsOutside _) h

/-- Settles O55: every operation of a transaction stays inside the device, so every transaction does. -/
theorem portTransactionsStayInside : Obligations.PortTransactionsStayInside := fun i s =>
  (keptByPorts_of_keepsOutside (P := KeepsOutside s) fun hst h => h.trans hst).exec i (.refl s)

/-- Settles O15: the write takes the last of the four cases, `writeCr_of_running`. -/
theorem controlWriteWhileRunningOnlyStores : Obligations.ControlWriteWhileRunningOnlyStores := by
  intro k d s hrr hrun hdch
  rw [exec_crWrite, writeCr_of_running hrr hrun hdch]
  rfl

end Sys2Proof.Machine
end

section
/-!
PROOFS. Every step keeps `MachineOk`: guest memory canonical and backed (R64), rings bounded (R38), closed streams idle
(R187).
-/

namespace Sys2Proof.Machine

open Sys2Proof

/-! ## The invariant by stream -/

theorem machineOk_iff (s : State) : MachineOk s ↔ MemoryOk s ∧ ∀ k, RuntimeOk s.cfg (s.rt.get k) := by
  refine and_congr_right fun _ => ⟨?_, fun h => ⟨h .pi, h .po, h .mc⟩⟩
  rintro ⟨hpi, hpo, hmc⟩ (_ | _ | _)
  exacts [hpi, hpo, hmc]

section
variable {s t : State}

theorem runtimeOk_of_machineOk (h : MachineOk s) (k : StreamId) : RuntimeOk s.cfg (s.rt.get k) :=
  ((machineOk_iff s).1 h).2 k

/-- An operation that keeps memory good and writes one stream's runtime state is judged by that state. -/
theorem machineOk_of_set {k : StreamId} {rt : StreamRuntime} (h : MachineOk s) (hmem : MemoryOk t)
    (hcfg : t.cfg = s.cfg) (hrt : t.rt = s.rt.set k rt) (hk : RuntimeOk s.cfg rt) : MachineOk t := by
  refine (machineOk_iff t).2 ⟨hmem, fun j => ?_⟩
  rw [hcfg, hrt, Tri.get_set]
  split
  · exact hk
  · exact runtimeOk_of_machineOk h j

theorem memoryOk_congr (hmem : t.mem = s.mem) (hracing : t.racing = s.racing) (hcfg : t.cfg = s.cfg) :
    MemoryOk t ↔ MemoryOk s := by
  simp only [MemoryOk, State.isRam, hmem, hracing, hcfg]

theorem memoryOk_of_keepsOutside (h : MemoryOk s) (hout : KeepsOutside s t) : MemoryOk t := by
  obtain ⟨hmem, hracing, -, hcfg, -⟩ := hout
  exact (memoryOk_congr hmem hracing hcfg).2 h

/-- An operation inside the device that writes one stream's runtime state is judged by that state. -/
theorem machineOk_of_keepsOutside {k : StreamId} {rt : StreamRuntime} (h : MachineOk s) (hout : KeepsOutside s t)
    (hrt : t.rt = s.rt.set k rt) (hk : RuntimeOk s.cfg rt) : MachineOk t := by
  have hmem := memoryOk_of_keepsOutside h.1 hout
  obtain ⟨-, -, -, hcfg, -⟩ := hout
  exact machineOk_of_set h hmem hcfg hrt hk

/-- An operation inside the device that leaves the runtime states. -/
theorem machineOk_of_rt_eq (h : MachineOk s) (hout : KeepsOutside s t) (hrt : t.rt = s.rt) : MachineOk t :=
  machineOk_of_keepsOutside (k := .pi) h hout (hrt.trans (Tri.set_get _ _).symm) (runtimeOk_of_machineOk h .pi)

end

/-! ## The scheduler -/

section
variable {s : State}

theorem enable_machineOk (k : StreamId) (h : MachineOk s) : MachineOk (enable k s) := by
  have hk := runtimeOk_of_machineOk h k
  refine machineOk_of_keepsOutside h (enable_keepsOutside k s) (enable_rt k s) ?_
  split
  · exact hk
  · split
    · exact openRuntime_ok _ _ _ _ hk
    · exact hk

theorem disable_machineOk (k : StreamId) (h : MachineOk s) : MachineOk (disable k s) :=
  machineOk_of_keepsOutside h ⟨rfl, rfl, rfl, rfl, rfl, rfl⟩ (disable_rt k s)
    (closeRuntime_ok _ _ (runtimeOk_of_machineOk h k))

/-- An empty ring is bounded, and an open stream may have its timer armed (R190). -/
theorem reopened_ok {p : Platform} {now : BitVec 64} {rt : StreamRuntime} (c : StreamConfig) (h : RuntimeOk p rt)
    (he : rt.enabled = true) : RuntimeOk p (armOnePeriod now (withPeriods p { rt with ring := [], config := c })) := by
  obtain ⟨-, -, hw, -, hs⟩ := h
  exact ⟨Nat.zero_le _, fun _ => he, hw, fun _ => rfl, hs⟩

theorem reopen_machineOk (k : StreamId) (h : MachineOk s) : MachineOk (reopen k s) := by
  have hk := runtimeOk_of_machineOk h k
  refine machineOk_of_keepsOutside h (reopen_keepsOutside k s) (reopen_rt k s) ?_
  split
  · rename_i he
    split
    · exact reopened_ok _ hk he
    · obtain ⟨-, ha, hw, -, hs⟩ := hk
      exact closeRuntime_ok _ _ ⟨Nat.zero_le _, ha, hw, fun _ => rfl, hs⟩
  · exact hk

/-! ## Port transactions -/

theorem deviceReset_machineOk (h : MachineOk s) : MachineOk (deviceReset s) := by
  refine (machineOk_iff _).2 ⟨memoryOk_of_keepsOutside h.1 (deviceReset_keepsOutside s), fun k => ?_⟩
  rw [deviceReset_rt, deviceReset_cfg]
  exact closeRuntime_ok _ _ (runtimeOk_of_machineOk h k)

/-- Every operation of a transaction keeps `MachineOk`: those that write no runtime state by `machineOk_of_rt_eq`. -/
theorem machineOk_keptByPorts : KeptByPorts MachineOk where
  quiet hq h := machineOk_of_rt_eq h hq.outside hq.rt
  base _ _ _ h := h
  lastValid k d u h := machineOk_of_rt_eq h (writeLvi_keepsOutside k d u) (by simp only [writeLvi]; split <;> rfl)
  status _ _ _ h := h
  streamReset k _ h := disable_machineOk k h
  stop k _ _ _ _ h := disable_machineOk k h
  start k d u _ _ _ h :=
    enable_machineOk k (s := advance k (u.modRegs k fun r => { r with cr := crOperand d, sr := srResumed r.sr })) h
  control _ _ _ _ _ _ h := h
  globCnt d u h := machineOk_of_rt_eq h (writeGlobCnt_keepsOutside d u) (by simp only [writeGlobCnt]; split <;> rfl)
  globSta _ _ h := h
  reopen k _ h := reopen_machineOk k h
  deviceReset h := deviceReset_machineOk h

/-! ## Ticks and workers -/

theorem tickEnabled_iff (k : StreamId) (s : State) :
    tickEnabled k s = true ↔
      (s.rt.get k).enabled = true ∧ (s.rt.get k).armed = true ∧ (s.rt.get k).deadline ≤ s.vnow := by
  rw [tickEnabled, Bool.and_eq_true, Bool.and_eq_true, decide_eq_true_iff, and_assoc]

/-- A good state in which stream `k` is open: what a tick keeps while it moves data. -/
def OpenOk (k : StreamId) (s : State) : Prop := MachineOk s ∧ (s.rt.get k).enabled = true

variable {k : StreamId}

/-- An operation that writes the ring of an open stream. -/
theorem OpenOk.of_set {t : State} {rt : StreamRuntime} (h : OpenOk k s) (hmem : MemoryOk t) (hcfg : t.cfg = s.cfg)
    (hrt : t.rt = s.rt.set k rt) (hk : RuntimeOk s.cfg rt) (he : rt.enabled = true) : OpenOk k t := by
  refine ⟨machineOk_of_set h.1 hmem hcfg hrt hk, ?_⟩
  rw [hrt, Tri.get_set_self]
  exact he

theorem memRead_length (s : State) (a : Addr) (n : Nat) : (s.memRead a n).length = n := by
  simp [State.memRead]

/-- A move of no more than the room pushes within it, or pops (R152). -/
theorem moveChunk_openOk {n : Nat} (hn : n ≤ moveRoom k (s.rt.get k)) (h : OpenOk k s) :
    OpenOk k (moveChunk k n s) := by
  have hk := runtimeOk_of_machineOk h.1 k
  refine h.of_set (moveChunk_memoryOk k n s h.1.1) (moveChunk_cfg k n s) (moveChunk_rt k n s) ?_ ?_
  · split
    · rename_i hout
      refine ringPush_ok _ _ _ hk h.2 ?_
      rwa [memRead_length, ← show moveRoom k (s.rt.get k) = ringFree (s.rt.get k) from if_pos hout]
    · exact ringPop_ok _ _ _ hk
  · split <;> exact h.2

theorem complete_openOk (h : OpenOk k s) : OpenOk k (complete k s).1 := by
  rcases complete_cases k s with ⟨-, e⟩ | ⟨-, e⟩ <;> rw [e] <;> exact h

theorem transfer_openOk (m : Nat) (h : OpenOk k s) : OpenOk k (transfer k m s).1 :=
  transfer_keeps k (OpenOk k) (fun _ h _ _ => h) (fun u n h _ => moveChunk_openOk (moveSize_le_room k n u) h)
    (fun _ h _ => complete_openOk h) m s h

theorem hostSide_openOk (h : OpenOk k s) : OpenOk k (hostSide k s) := by
  have hmem : MemoryOk (hostSide k s) :=
    (memoryOk_congr (hostSide_mem k s) (hostSide_racing k s) (hostSide_cfg k s)).2 h.1.1
  have hk := runtimeOk_of_machineOk h.1 k
  rcases hostSide_rt k s with ⟨n, hrt⟩ | ⟨bytes, hle, hrt⟩
  · exact h.of_set hmem (hostSide_cfg k s) hrt (ringPop_ok _ _ _ hk) h.2
  · exact h.of_set hmem (hostSide_cfg k s) hrt (ringPush_ok _ _ _ hk h.2 hle) h.2

theorem tickHostSide_openOk (h : OpenOk k s) : OpenOk k (tickHostSide k s) := by
  unfold tickHostSide
  split
  · rename_i hasync
    obtain ⟨hl, ha, hw, hr, -⟩ := runtimeOk_of_machineOk h.1 k
    refine h.of_set h.1.1 rfl rfl ⟨hl, ha, hw, hr, fun hsync => ?_⟩ h.2
    cases hasync.symm.trans hsync
  · exact hostSide_openOk h

theorem tickData_openOk (h : OpenOk k s) : OpenOk k (tickData k s) := by
  simp only [tickData]
  split
  · exact tickHostSide_openOk (transfer_openOk _ h)
  · exact transfer_openOk _ (tickHostSide_openOk h)

theorem rearm_openOk (h : OpenOk k s) : OpenOk k (rearm k s) := by
  obtain ⟨hl, -, hw, hr, hs⟩ := runtimeOk_of_machineOk h.1 k
  refine h.of_set h.1.1 rfl rfl ?_ ?_
  · split <;> exact ⟨hl, fun _ => h.2, hw, hr, hs⟩
  · split <;> exact h.2

theorem tick_machineOk (k : StreamId) (h : MachineOk s) : MachineOk (tick k s) := by
  unfold tick
  split
  · rename_i hdue
    obtain ⟨he, -⟩ := (tickEnabled_iff k s).1 hdue
    exact (rearm_openOk (tickData_openOk ⟨h, he⟩)).1
  · exact h

/-- A worker runs in `ASYNC_MODE` only, and moves data only while it is enabled, hence on an open stream (R233). -/
theorem workerStep_machineOk (k : StreamId) (h : MachineOk s) : MachineOk (workerStep k s) := by
  obtain ⟨hl, ha, hw, hr, -⟩ := runtimeOk_of_machineOk h k
  unfold workerStep
  dsimp only
  split
  · rename_i hruns
    simp only [Bool.and_eq_true] at hruns
    obtain ⟨⟨hasync, -⟩, -⟩ := hruns
    have hsync {p : Prop} (hf : s.cfg.asyncMode = false) : p := by cases hasync.symm.trans hf
    have hwoken : MachineOk (s.modRt k fun rt => { rt with workerSignalled := false }) :=
      machineOk_of_set h h.1 rfl rfl ⟨hl, ha, hw, hr, hsync⟩
    split
    · exact machineOk_of_set hwoken h.1 rfl rfl (by simpa using ⟨hl, ha, hw, hr, hsync⟩)
    · split
      · rename_i hworker
        refine (hostSide_openOk ⟨hwoken, ?_⟩).1
        simpa using hw hworker
      · exact hwoken
  · exact h

/-! ## Teardown, load and stores -/

theorem shutdownWorker_machineOk (k : StreamId) (h : MachineOk s) : MachineOk (shutdownWorker k s) := by
  obtain ⟨hl, ha, hw, hr, hs⟩ := runtimeOk_of_machineOk h k
  unfold shutdownWorker
  split
  · rename_i hexists
    refine machineOk_of_set h h.1 rfl rfl ⟨hl, ha, hw, hr, fun hsync => ?_⟩
    obtain ⟨hnone, -⟩ := hs hsync
    cases hexists.symm.trans hnone
  · exact h

theorem releaseRing_machineOk (k : StreamId) (h : MachineOk s) : MachineOk (releaseRing k s) := by
  obtain ⟨-, ha, hw, -, hs⟩ := runtimeOk_of_machineOk h k
  unfold releaseRing
  split
  · exact h
  · exact machineOk_of_set h h.1 rfl rfl ⟨Nat.zero_le _, ha, hw, fun _ => rfl, hs⟩

theorem reapplyHost_keepsOutside (s : State) : KeepsOutside s (reapplyHost s) :=
  ⟨reapplyHost_mem s, reapplyHost_racing s, reapplyHost_vnow s, reapplyHost_cfg s, reapplyHost_pending s,
    reapplyHost_host s⟩

theorem loadStream_machineOk (r : SaveRecord) (k : StreamId) (h : MachineOk s) : MachineOk (loadStream r k s) := by
  have happlied : MachineOk (reapplyHost s) := machineOk_of_rt_eq h (reapplyHost_keepsOutside s) (reapplyHost_rt s)
  unfold loadStream
  split
  · exact enable_machineOk k happlied
  · exact happlied

theorem loadRecord_machineOk (r : SaveRecord) (h : MachineOk s) : MachineOk (loadRecord r s) :=
  loadStream_machineOk r .mc (loadStream_machineOk r .po (loadStream_machineOk r .pi
    (disable_machineOk .mc (disable_machineOk .po (disable_machineOk .pi h)))))

/-- The completion of a store changes memory and the stores in flight only (R70). -/
theorem completeStore_eq (n : Nat) (s : State) :
    completeStore n s = { s with mem := (completeStore n s).mem, racing := (completeStore n s).racing } := by
  unfold completeStore
  split
  · rw [writeByte_mem_only]
  · rfl

theorem completeStore_machineOk (n : Nat) (h : MachineOk s) : MachineOk (completeStore n s) := by
  have hmem := completeStore_memoryOk n s h.1
  rw [completeStore_eq] at hmem ⊢
  exact ⟨hmem, h.2⟩

/-! ## Steps -/

theorem agentStep_machineOk (e : AgentEvent) (h : MachineOk s) : MachineOk (agentStep e s) := by
  cases e with
  | tick k => exact tick_machineOk k h
  | worker k => exact workerStep_machineOk k h
  | clock delta => exact h
  | save => exact h
  | load r => exact loadRecord_machineOk r h
  | deviceReset => exact deviceReset_machineOk h
  | shutdown k => exact shutdownWorker_machineOk k h
  | release k => exact releaseRing_machineOk k h
  | guestStore a b => exact ⟨guestStore_memoryOk a b s h.1, h.2⟩
  | storeDone n => exact completeStore_machineOk n h

end

/-- Settles O52: taking the event off the queue keeps `MachineOk`, and so does every transaction and every agent's
step. -/
theorem stepKeepsMachineGood : Obligations.StepKeepsMachineGood := fun s _ h hstep =>
  machineOk_keptByPorts.step hstep (show MachineOk (takeEvent s) from h) fun a _ => agentStep_machineOk a h

end Sys2Proof.Machine
end

section
/-!
PROOFS. Every step but the load of a foreign record keeps `GuestOk`, the shape of the guest-visible registers (R23 to
R33, R143, R153, R157, R240).
-/

namespace Sys2Proof.Machine

open Sys2Proof

/-! ## Masks -/

section
variable {w : Nat} {x y m : BitVec w}

theorem and_and_eq_zero (h : x &&& m = 0#w) : (x &&& y) &&& m = 0#w := by
  rw [BitVec.and_assoc, BitVec.and_comm y, ← BitVec.and_assoc, h, BitVec.zero_and]

theorem or_and_eq_zero (hx : x &&& m = 0#w) (hy : y &&& m = 0#w) : (x ||| y) &&& m = 0#w := by
  rw [BitVec.and_or_distrib_right, hx, hy, BitVec.or_zero]

theorem and_not_and_self (x m : BitVec w) : (x &&& ~~~m) &&& m = 0#w := by
  rw [BitVec.and_assoc, BitVec.not_and_self]
  exact BitVec.and_zero

end

/-- An address is even where its lowest bit is 0. -/
theorem and_one_eq_zero_iff (a : Addr) : a &&& 1 = 0 ↔ a.toNat % 2 = 0 := by
  rw [← BitVec.toNat_inj, BitVec.toNat_and]
  exact (Nat.and_one_is_mod _).symm ▸ Iff.rfl

/-! ## The invariant by stream -/

theorem guestOk_iff (s : State) :
    GuestOk s ↔ GlobalsOk s.globCnt s.globSta s.cas ∧
      ∀ k, StreamOk s.globSta k (s.rt.get k).enabled (s.regs.get k) := by
  refine and_congr_right fun _ => ⟨?_, fun h => ⟨h .pi, h .po, h .mc⟩⟩
  rintro ⟨hpi, hpo, hmc⟩ (_ | _ | _)
  exacts [hpi, hpo, hmc]

theorem recordOk_iff (r : SaveRecord) :
    RecordOk r ↔ GlobalsOk r.globCnt r.globSta r.cas ∧
      ∀ k, StreamOk r.globSta k (r.enabled.get k) (r.streams.get k) := by
  refine and_congr_right fun _ => ⟨?_, fun h => ⟨h .pi, h .po, h .mc⟩⟩
  rintro ⟨hpi, hpo, hmc⟩ (_ | _ | _)
  exacts [hpi, hpo, hmc]

section
variable {s t : State} {k : StreamId}

theorem streamOk_of_guestOk (h : GuestOk s) (k : StreamId) :
    StreamOk s.globSta k (s.rt.get k).enabled (s.regs.get k) := ((guestOk_iff s).1 h).2 k

theorem regsOk_of_guestOk (h : GuestOk s) (k : StreamId) : RegsOk (s.regs.get k) := (streamOk_of_guestOk h k).1

/-- An operation that writes no stream register or global but the semaphore, and opens no stream. -/
theorem guestOk_of_regs_eq (h : GuestOk s) (hregs : t.regs = s.regs) (hcnt : t.globCnt = s.globCnt)
    (hsta : t.globSta = s.globSta) (hcas : t.cas = s.cas ∨ t.cas = 0)
    (hopen : ∀ k, (t.rt.get k).enabled = true → (s.rt.get k).enabled = true) : GuestOk t := by
  obtain ⟨⟨hc, hg, hfree⟩, hstreams⟩ := (guestOk_iff s).1 h
  refine (guestOk_iff t).2 ⟨⟨hcnt ▸ hc, hsta ▸ hg, ?_⟩, fun k => ?_⟩
  · rcases hcas with hsame | hzero
    · exact hsame.trans hfree
    · exact hzero
  · obtain ⟨hr, hrun, hint⟩ := hstreams k
    rw [hregs, hsta]
    exact ⟨hr, fun he => hrun (hopen k he), hint⟩

/-- An operation that writes one stream's registers and its contribution, and opens no other stream. -/
theorem guestOk_of_set {r : StreamRegs} (h : GuestOk s) (hregs : t.regs = s.regs.set k r) (hcnt : t.globCnt = s.globCnt)
    (hcas : t.cas = s.cas) (hsta : t.globSta &&& ~~~0x300E0 = 0)
    (hother : ∀ j, j ≠ k → t.globSta &&& gsStream j = s.globSta &&& gsStream j)
    (hopen : ∀ j, j ≠ k → (t.rt.get j).enabled = true → (s.rt.get j).enabled = true)
    (hk : StreamOk t.globSta k (t.rt.get k).enabled r) : GuestOk t := by
  obtain ⟨⟨hc, -, hfree⟩, hstreams⟩ := (guestOk_iff s).1 h
  refine (guestOk_iff t).2 ⟨⟨hcnt ▸ hc, hsta, hcas.trans hfree⟩, fun j => ?_⟩
  by_cases hj : j = k
  · subst hj
    rw [hregs, Tri.get_set_self]
    exact hk
  · obtain ⟨hr, hrun, hint⟩ := hstreams j
    rw [hregs, Tri.get_set_ne _ _ hj]
    exact ⟨hr, fun he => hrun (hopen j hj he), fun hg => hint (hother j hj ▸ hg)⟩

/-- A write of one stream's registers alone. -/
theorem modRegs_guestOk {f : StreamRegs → StreamRegs} (h : GuestOk s) (hr : RegsOk (f (s.regs.get k)))
    (hrun : (s.rt.get k).enabled = true → crRuns (f (s.regs.get k)).cr = true)
    (hint : (f (s.regs.get k)).sr &&& srINT = (s.regs.get k).sr &&& srINT) : GuestOk (s.modRegs k f) := by
  obtain ⟨⟨-, hg, -⟩, hstreams⟩ := (guestOk_iff s).1 h
  obtain ⟨-, -, hbehind⟩ := hstreams k
  exact guestOk_of_set h rfl rfl rfl hg (fun _ _ => rfl) (fun _ _ he => he) ⟨hr, hrun, fun hc => hint ▸ hbehind hc⟩

/-! ## The status -/

/-- A status update keeps the bits of GLOB_STA that are always 0 (R33, R170). -/
theorem contribution_reserved {sr v : Word} {cr : Byte} {g : Dword} (h : g &&& ~~~0x300E0 = 0) :
    contribution k sr v cr g &&& ~~~0x300E0 = 0 := by
  have hstream : gsStream k &&& ~~~0x300E0 = 0 := by cases k <;> decide
  simp only [contribution]
  split
  · exact h
  · split
    · exact and_and_eq_zero h
    · split
      · exact or_and_eq_zero h hstream
      · exact h

/-- A contribution keeps an interrupt bit behind it through a status update (R170). -/
theorem contribution_behind {sr v : Word} {cr : Byte} {g : Dword} (h : g &&& gsStream k ≠ 0 → sr &&& srINT ≠ 0)
    (hg : contribution k sr v cr g &&& gsStream k ≠ 0) : v &&& srINT ≠ 0 := by
  intro hv
  by_cases hsame : v &&& srINT = sr &&& srINT
  · rw [contribution_of_same k hsame] at hg
    exact h hg (hsame ▸ hv)
  · rw [contribution_of_cleared k hsame hv] at hg
    exact hg (and_not_and_self _ _)

theorem updateStatus_guestOk {v : Word} (h : GuestOk s) (hr : RegsOk { s.regs.get k with sr := v }) :
    GuestOk (updateStatus k v s) := by
  obtain ⟨⟨-, hg, -⟩, hstreams⟩ := (guestOk_iff s).1 h
  obtain ⟨-, hrun, hbehind⟩ := hstreams k
  exact guestOk_of_set h (updateStatus_regs k v s) rfl rfl (contribution_reserved hg)
    (fun j hj => contribution_other j k _ _ _ _ hj) (fun _ _ he => he) ⟨hr, hrun, contribution_behind hbehind⟩

/-! ## The descriptor -/

/-- Registers that the fetch of a descriptor makes good: what `RegsOk` says without the cached descriptor and PIV. -/
def ReadyOk (r : StreamRegs) : Prop :=
  r.bdbar &&& 3 = 0 ∧ r.sr &&& 0xFFF0 = 0 ∧ r.cr &&& 0xE2 = 0 ∧
    (r.sr.getLsbD 1 = true → isHalted r.sr = true) ∧ (isHalted r.sr = false → crRuns r.cr = true)

theorem readyOk_of_regsOk {r : StreamRegs} (h : RegsOk r) : ReadyOk r := by
  obtain ⟨hbase, hsr, hcr, -, -, hcelv, hrun, -⟩ := h
  exact ⟨hbase, hsr, hcr, hcelv, fun hh => (hrun hh).1⟩

/-- An advance fetches a valid descriptor and leaves PIV one past CIV (R141, R143). -/
theorem advance_regsOk (h : ReadyOk (s.regs.get k)) : RegsOk ((advance k s).regs.get k) := by
  obtain ⟨hbase, hsr, hcr, hcelv, hrun⟩ := h
  rw [advance_regs, Tri.get_set_self]
  refine ⟨hbase, hsr, hcr, ?_, BitVec.le_refl _, hcelv, fun hh => ⟨hrun hh, rfl⟩, .inl rfl⟩
  rw [bdAddrOf, BitVec.and_assoc]
  exact BitVec.and_zero

/-- An advance from registers that a fetch makes good. -/
theorem advance_guestOk {f : StreamRegs → StreamRegs} (h : GuestOk s) (hr : ReadyOk (f (s.regs.get k)))
    (hrun : (s.rt.get k).enabled = true → crRuns (f (s.regs.get k)).cr = true)
    (hint : (f (s.regs.get k)).sr &&& srINT = (s.regs.get k).sr &&& srINT) : GuestOk (advance k (s.modRegs k f)) := by
  have hself : (s.modRegs k f).regs.get k = f (s.regs.get k) := Tri.get_set_self _ _ _
  have hregs := advance_regs k (s.modRegs k f)
  have hok : RegsOk ((advance k (s.modRegs k f)).regs.get k) := advance_regsOk (by rwa [hself])
  rw [hregs, Tri.get_set_self] at hok
  rw [State.modRegs_regs, Tri.set_set, ← State.modRegs_regs] at hregs
  obtain ⟨⟨-, hg, -⟩, hstreams⟩ := (guestOk_iff s).1 h
  obtain ⟨-, -, hbehind⟩ := hstreams k
  refine guestOk_of_set h hregs rfl rfl hg (fun _ _ => rfl) (fun _ _ he => he) ⟨hok, fun he => ?_, fun hc => ?_⟩
  · rw [hself]
    exact hrun he
  · rw [hself, hint]
    exact hbehind hc

theorem advance_guestOk_self (h : GuestOk s) : GuestOk (advance k s) := by
  obtain ⟨hr, hrun, -⟩ := streamOk_of_guestOk h k
  have hadvanced := advance_guestOk (k := k) (f := id) h (readyOk_of_regsOk hr) hrun rfl
  rwa [modRegs_id] at hadvanced

/-! ## Port transactions -/

theorem srResumed_celv (sr : Word) : (srResumed sr).getLsbD 1 = false := by
  simp [srResumed]

theorem srResumed_int (sr : Word) : srResumed sr &&& srINT = sr &&& srINT := by
  rw [srResumed, BitVec.and_assoc]
  rfl

/-- A resumed stream is one that a fetch makes good, if its control has RPBM set. -/
theorem readyOk_of_resumed {r : StreamRegs} {cr : Byte} (h : RegsOk r) (hcr : cr &&& 0xE2 = 0)
    (hrun : crRuns cr = true) : ReadyOk { r with cr := cr, sr := srResumed r.sr } := by
  obtain ⟨hbase, hsr, -⟩ := h
  refine ⟨hbase, and_and_eq_zero hsr, hcr, fun hcelv => ?_, fun _ => hrun⟩
  rw [srResumed_celv] at hcelv
  cases hcelv

/-- A control write without RR stores no reserved bit (R29, R86). -/
theorem crOperand_reserved {d : Byte} (hrr : d.getLsbD 1 = false) : crOperand d &&& 0xE2 = 0 := by
  have hmask : (0x1F &&& 0xE2 : Byte) = BitVec.twoPow 8 1 := by decide
  rw [crOperand, BitVec.and_assoc, hmask]
  exact not_not.1 (mt (and_twoPow_ne_zero_iff d (by decide)).1 (by rw [hrr]; decide))

theorem crRuns_crOperand (d : Byte) : crRuns (crOperand d) = d.getLsbD 0 := by
  simp [crRuns, crOperand]

theorem writeBdbar_guestOk (k : StreamId) (d : Dword) (h : GuestOk s) : GuestOk (writeBdbar k d s) := by
  obtain ⟨⟨-, hr⟩, hrun, -⟩ := streamOk_of_guestOk h k
  refine modRegs_guestOk h ⟨?_, hr⟩ hrun rfl
  rw [bdbarOperand, BitVec.and_assoc]
  exact BitVec.and_zero

theorem writeLvi_guestOk (k : StreamId) (d : Byte) (h : GuestOk s) : GuestOk (writeLvi k d s) := by
  have store {u : State} (hu : GuestOk u) : GuestOk (u.modRegs k fun r => { r with lvi := lviOperand d }) := by
    obtain ⟨hr, hrun, -⟩ := streamOk_of_guestOk hu k
    exact modRegs_guestOk hu hr hrun rfl
  by_cases hrestart : (s.regs.get k).cr.getLsbD 0 = true ∧ (s.regs.get k).sr.getLsbD 0 = true
  · rw [writeLvi_of_restarting hrestart]
    obtain ⟨hr, hrun, -⟩ := streamOk_of_guestOk h k
    have ⟨_, _, hcr, _⟩ := hr
    exact store (advance_guestOk h (readyOk_of_resumed hr hcr hrestart.1) hrun (srResumed_int _))
  · rw [writeLvi_of_not_restarting hrestart]
    exact store h

/-- A status write keeps the bits that are not cleared by writing 1 (R27, R116). -/
theorem srWritten_getLsbD {i : Nat} (hi : (0x001C : Word).getLsbD i = false) (sr d : Word) :
    (srWritten sr d).getLsbD i = sr.getLsbD i := by
  rw [srWritten_eq, BitVec.getLsbD_and, BitVec.getLsbD_not, BitVec.getLsbD_and, hi]
  by_cases hlt : i < 16
  · simp [hlt]
  · simp [BitVec.getLsbD_of_ge sr i (by omega)]

theorem writeSr_guestOk (k : StreamId) (d : Word) (h : GuestOk s) : GuestOk (writeSr k d s) := by
  obtain ⟨hbase, hsr, hcr, haddr, hpicb, hcelv, hrun, hpiv⟩ := regsOk_of_guestOk h k
  refine updateStatus_guestOk h ⟨hbase, ?_, hcr, haddr, hpicb, ?_, ?_, hpiv⟩
  · rw [srWritten_eq]
    exact and_and_eq_zero hsr
  · rw [isHalted, srWritten_getLsbD (by decide), srWritten_getLsbD (by decide)]
    exact hcelv
  · rw [isHalted, srWritten_getLsbD (by decide)]
    exact hrun

/-- A disabled stream is closed. -/
theorem disable_closed (k : StreamId) (s : State) : ((disable k s).rt.get k).enabled = false :=
  (disable_rt_spec k s).1

theorem disable_open (k : StreamId) (s : State) (j : StreamId) (h : ((disable k s).rt.get j).enabled = true) :
    (s.rt.get j).enabled = true := by
  by_cases hj : j = k
  · subst hj
    rw [disable_closed] at h
    cases h
  · rwa [disable_rt, Tri.get_set_ne _ _ hj] at h

/-- The registers of a reset stream (R272). -/
theorem regsOk_reset {cr : Byte} (h : cr &&& 0xE2 = 0) : RegsOk ⟨0, 0, 0, 0x0001, 0, 0, cr, false, 0, 0⟩ := by
  have hhalted : isHalted 0x0001 = true := rfl
  have hsr : (0x0001 &&& 0xFFF0 : Word) = 0 := by decide
  exact ⟨BitVec.zero_and, hsr, h, BitVec.zero_and, BitVec.le_refl _, fun _ => hhalted,
    fun hh => absurd (hhalted.symm.trans hh) (by decide), .inr ⟨rfl, rfl, rfl⟩⟩

theorem streamReset_guestOk (k : StreamId) (h : GuestOk s) : GuestOk (streamReset k s) := by
  obtain ⟨⟨-, hg, -⟩, hstreams⟩ := (guestOk_iff s).1 h
  obtain ⟨⟨-, -, hcr, -⟩, -, hbehind⟩ := hstreams k
  have hclosed : ((streamReset k s).rt.get k).enabled = false := disable_closed k s
  refine guestOk_of_set h (streamReset_regs k s) rfl rfl ?_ (fun j hj => ?_) (fun j _ => disable_open k s j)
    ⟨regsOk_reset (and_and_eq_zero hcr), fun he => absurd (hclosed.symm.trans he) (by decide), fun hc => ?_⟩
  · rw [streamReset_globSta]
    exact contribution_reserved hg
  · rw [streamReset_globSta]
    exact contribution_other j k _ _ _ _ hj
  · rw [streamReset_globSta] at hc
    exact contribution_behind hbehind hc

theorem stopStream_guestOk {d : Byte} (hrr : d.getLsbD 1 = false) (k : StreamId) (h : GuestOk s) :
    GuestOk (stopStream k d s) := by
  obtain ⟨⟨-, hg, -⟩, hstreams⟩ := (guestOk_iff s).1 h
  obtain ⟨⟨hbase, hsr, -, haddr, hpicb, -, -, hpiv⟩, -, hbehind⟩ := hstreams k
  have hhalted : isHalted ((s.regs.get k).sr ||| 0x0001) = true := by simp [isHalted]
  have hint : ((s.regs.get k).sr ||| 0x0001) &&& srINT = (s.regs.get k).sr &&& srINT := by
    rw [BitVec.and_or_distrib_right]
    exact BitVec.or_zero
  refine guestOk_of_set h (stopStream_regs k d s) rfl rfl hg (fun _ _ => rfl) (fun j _ => disable_open k s j)
    ⟨⟨hbase, or_and_eq_zero hsr rfl, crOperand_reserved hrr, haddr, hpicb, fun _ => hhalted, fun hh => ?_, hpiv⟩,
      fun he => absurd ((disable_closed k s).symm.trans he) (by decide), fun hc => hint ▸ hbehind hc⟩
  cases hhalted.symm.trans hh

/-- An enable opens a stream whose control has RPBM set. -/
theorem enable_guestOk (h : GuestOk s) (hrun : crRuns (s.regs.get k).cr = true) : GuestOk (enable k s) := by
  obtain ⟨⟨-, hg, -⟩, hstreams⟩ := (guestOk_iff s).1 h
  obtain ⟨hr, -, hbehind⟩ := hstreams k
  refine guestOk_of_set h (r := s.regs.get k) ((enable_regs k s).trans (Tri.set_get _ _).symm) (enable_globCnt k s)
    (enable_cas k s) ?_ (fun j _ => ?_) (fun j hj he => ?_) ⟨hr, fun _ => hrun, fun hc => ?_⟩
  · rwa [enable_globSta]
  · rw [enable_globSta]
  · rwa [enable_rt, Tri.get_set_ne _ _ hj] at he
  · rw [enable_globSta] at hc
    exact hbehind hc

theorem startStream_guestOk {d : Byte} (hrr : d.getLsbD 1 = false) (hrun : d.getLsbD 0 = true) (k : StreamId)
    (h : GuestOk s) : GuestOk (startStream k d s) := by
  have hruns : crRuns (crOperand d) = true := (crRuns_crOperand d).trans hrun
  have hready := readyOk_of_resumed (regsOk_of_guestOk h k) (crOperand_reserved hrr) hruns
  refine enable_guestOk (advance_guestOk h hready (fun _ => hruns) (srResumed_int _)) ?_
  rw [advance_regs, Tri.get_set_self, State.modRegs_regs, Tri.get_set_self]
  exact hruns

theorem storeControl_guestOk {d : Byte} (hrr : d.getLsbD 1 = false) (hrun : d.getLsbD 0 = true) (k : StreamId)
    (h : GuestOk s) : GuestOk (s.modRegs k fun r => { r with cr := crOperand d }) := by
  have hruns : crRuns (crOperand d) = true := (crRuns_crOperand d).trans hrun
  obtain ⟨hbase, hsr, -, haddr, hpicb, hcelv, hvalid, hpiv⟩ := regsOk_of_guestOk h k
  exact modRegs_guestOk h ⟨hbase, hsr, crOperand_reserved hrr, haddr, hpicb, hcelv, fun hh => ⟨hruns, (hvalid hh).2⟩,
    hpiv⟩ (fun _ => hruns) rfl

/-- A write of GLOB_STA leaves each contribution (R124). -/
theorem globStaWritten_contribution (g d : Dword) (k : StreamId) :
    globStaWritten g d &&& gsStream k = g &&& gsStream k := by
  have hmask : 0xE0 &&& gsStream k = gsStream k := by cases k <;> decide
  rw [← hmask, ← BitVec.and_assoc, globStaWritten_contributions, BitVec.and_assoc]

/-- A stored control value has no reset bit and no reserved one (R31, R118). -/
theorem writeGlobCnt_guestOk (d : Dword) (h : GuestOk s) : GuestOk (writeGlobCnt d s) := by
  by_cases hd : d &&& 0x6 = 0
  · rw [writeGlobCnt_of_stores hd]
    obtain ⟨⟨-, hg, hfree⟩, hstreams⟩ := h
    refine ⟨⟨?_, hg, hfree⟩, hstreams⟩
    rw [BitVec.and_assoc]
    exact hd
  · rw [writeGlobCnt_of_resets hd]
    exact h

/-- A write of GLOB_STA keeps the contributions and the bits that are always 0 (R33, R124). -/
theorem writeGlobSta_guestOk (d : Dword) (h : GuestOk s) : GuestOk (writeGlobSta d s) := by
  obtain ⟨⟨hc, hg, hfree⟩, hstreams⟩ := (guestOk_iff s).1 h
  refine (guestOk_iff _).2 ⟨⟨hc, ?_, hfree⟩, fun j => ?_⟩
  · show globStaWritten s.globSta d &&& _ = _
    rw [globStaWritten_eq]
    refine or_and_eq_zero (and_and_eq_zero hg) ?_
    rw [BitVec.and_assoc]
    exact BitVec.and_zero
  · obtain ⟨hr, hrun, hbehind⟩ := hstreams j
    refine ⟨hr, hrun, fun hcontrib => hbehind ?_⟩
    rwa [← globStaWritten_contribution s.globSta d j]

theorem reopen_guestOk (k : StreamId) (h : GuestOk s) : GuestOk (reopen k s) := by
  refine guestOk_of_regs_eq h (reopen_regs k s) (reopen_globCnt k s) (reopen_globSta k s) (.inl (reopen_cas k s))
    fun j he => ?_
  by_cases hj : j = k
  · subst hj
    by_contra hclosed
    rw [reopen_rt, if_neg hclosed, Tri.get_set_self] at he
    exact hclosed he
  · rwa [reopen_rt_get_of_ne hj] at he

theorem deviceReset_guestOk (h : GuestOk s) : GuestOk (deviceReset s) := by
  refine (guestOk_iff _).2 ⟨⟨?_, ?_, deviceReset_cas s⟩, fun k => ?_⟩
  · rw [deviceReset_globCnt]
    rfl
  · rw [deviceReset_globSta]
    rfl
  · obtain ⟨-, -, hcr, -⟩ := regsOk_of_guestOk h k
    obtain ⟨hclosed, -⟩ := closeRuntime_spec s.cfg (s.rt.get k)
    rw [deviceReset_regs, deviceReset_rt, deviceReset_globSta]
    exact ⟨regsOk_reset (and_and_eq_zero hcr), fun he => absurd (hclosed.symm.trans he) (by decide),
      fun hc => absurd BitVec.zero_and hc⟩

/-- Every operation of a transaction keeps `GuestOk`. -/
theorem guestOk_keptByPorts : KeptByPorts GuestOk where
  quiet hq h := guestOk_of_regs_eq h hq.regs hq.globCnt hq.globSta hq.cas fun _ he => hq.rt ▸ he
  base k d _ h := writeBdbar_guestOk k d h
  lastValid k d _ h := writeLvi_guestOk k d h
  status k d _ h := writeSr_guestOk k d h
  streamReset k _ h := streamReset_guestOk k h
  stop k _ _ hrr _ h := stopStream_guestOk hrr k h
  start k _ _ hrr hrun _ h := startStream_guestOk hrr hrun k h
  control k _ _ hrr hrun _ h := storeControl_guestOk hrr hrun k h
  globCnt d _ h := writeGlobCnt_guestOk d h
  globSta d _ h := writeGlobSta_guestOk d h
  reopen k _ h := reopen_guestOk k h
  deviceReset h := deviceReset_guestOk h

/-! ## Ticks -/

/-- A move stays within the descriptor and keeps the address even (R28, R66, R152). -/
theorem moveChunk_guestOk {n : Nat} (hle : n ≤ 2 * (s.regs.get k).picb.toNat) (heven : n % 2 = 0) (h : GuestOk s) :
    GuestOk (moveChunk k n s) := by
  obtain ⟨⟨-, hg, -⟩, hstreams⟩ := (guestOk_iff s).1 h
  obtain ⟨⟨hbase, hsr, hcr, haddr, hpicb, hcelv, hvalid, hpiv⟩, hrun, hbehind⟩ := hstreams k
  have henabled (j : StreamId) : ((moveChunk k n s).rt.get j).enabled = (s.rt.get j).enabled := by
    rw [moveChunk_rt, Tri.get_set]
    split
    · rename_i hj
      subst hj
      split <;> rfl
    · rfl
  refine guestOk_of_set h (moveChunk_regs_of_le hle) (moveChunk_globCnt k n s) (moveChunk_cas k n s) ?_ (fun j _ => ?_)
    (fun j _ he => henabled j ▸ he) ⟨⟨hbase, hsr, hcr, ?_, ?_, hcelv, hvalid, hpiv⟩, fun he => hrun (henabled k ▸ he),
      fun hc => hbehind ?_⟩
  · rwa [moveChunk_globSta]
  · rw [moveChunk_globSta]
  · rw [and_one_eq_zero_iff] at haddr ⊢
    rw [BitVec.toNat_add, BitVec.toNat_ofNat]
    omega
  · refine BitVec.le_trans ?_ hpicb
    rw [BitVec.le_def, BitVec.toNat_ofNat]
    exact (Nat.mod_le _ _).trans (Nat.sub_le _ _)
  · rwa [moveChunk_globSta] at hc

/-- At the last valid index a completion halts the stream with DCH, CELV and LVBCI set; at another it keeps those bits
and advances (R153). -/
theorem complete_guestOk (h : GuestOk s) : GuestOk (complete k s).1 := by
  obtain ⟨hbase, hsr, hcr, haddr, hpicb, hcelv, hvalid, hpiv⟩ := regsOk_of_guestOk h k
  have hsr' (ioc : Bool) : (if ioc then (s.regs.get k).sr ||| 0x0008 else (s.regs.get k).sr) &&& 0xFFF0 = 0 := by
    split
    · exact or_and_eq_zero hsr rfl
    · exact hsr
  rcases complete_cases k s with ⟨-, e⟩ | ⟨-, e⟩ <;> rw [e]
  · have hhalted (v : Word) : isHalted (v ||| 0x0007) = true := by simp [isHalted]
    rw [srCompleted_underrun]
    exact updateStatus_guestOk h ⟨hbase, or_and_eq_zero (hsr' _) rfl, hcr, haddr, hpicb, fun _ => hhalted _,
      fun hh => absurd ((hhalted _).symm.trans hh) (by decide), hpiv⟩
  · have hbit {i : Nat} (hi : (0x0008 : Word).getLsbD i = false) (ioc : Bool) :
        (if ioc then (s.regs.get k).sr ||| 0x0008 else (s.regs.get k).sr).getLsbD i = (s.regs.get k).sr.getLsbD i := by
      split
      · rw [BitVec.getLsbD_or, hi, Bool.or_false]
      · rfl
    rw [srCompleted_advancing]
    refine advance_guestOk_self (updateStatus_guestOk h ⟨hbase, hsr' _, hcr, haddr, hpicb, ?_, ?_, hpiv⟩)
    · rw [isHalted, hbit (by decide), hbit (by decide)]
      exact hcelv
    · rw [isHalted, hbit (by decide)]
      exact hvalid

/-- A call never fetches: a stream that is not halted has a valid descriptor. -/
theorem transfer_guestOk (m : Nat) (h : GuestOk s) : GuestOk (transfer k m s).1 := by
  refine transfer_keeps k GuestOk (fun u hu hrun hnone => ?_)
    (fun u n hu _ => moveChunk_guestOk (moveSize_le_picb k n u) (moveSize_even k n u) hu)
    (fun u hu _ => complete_guestOk hu) m s h
  obtain ⟨-, -, -, -, -, -, hvalid, -⟩ := regsOk_of_guestOk hu k
  cases hnone.symm.trans (hvalid hrun).2

end

/-! ## Agents: a runtime state that stays as open as it was -/

/-- From `s` to `t` no stream is opened and no guest-visible register changes. -/
structure OpensNone (s t : State) : Prop where
  regs : t.regs = s.regs
  globals : KeepsGlobals s t
  enabled : ∀ k, (t.rt.get k).enabled = true → (s.rt.get k).enabled = true

section
variable {s t u : State}

theorem OpensNone.refl (s : State) : OpensNone s s := ⟨rfl, ⟨rfl, rfl, rfl, rfl⟩, fun _ h => h⟩

theorem OpensNone.trans (hst : OpensNone s t) (htu : OpensNone t u) : OpensNone s u := by
  obtain ⟨hregs, ⟨hcnt, hsta, hcas, hmix⟩, hen⟩ := hst
  obtain ⟨hregs', ⟨hcnt', hsta', hcas', hmix'⟩, hen'⟩ := htu
  exact ⟨hregs'.trans hregs, ⟨hcnt'.trans hcnt, hsta'.trans hsta, hcas'.trans hcas, hmix'.trans hmix⟩,
    fun k h => hen k (hen' k h)⟩

theorem OpensNone.guestOk (hst : OpensNone s t) (h : GuestOk s) : GuestOk t := by
  obtain ⟨hregs, ⟨hcnt, hsta, hcas, -⟩, hen⟩ := hst
  exact guestOk_of_regs_eq h hregs hcnt hsta (.inl hcas) hen

theorem OpensNone.of_set {k : StreamId} {rt : StreamRuntime} (hregs : t.regs = s.regs) (hglobals : KeepsGlobals s t)
    (hrt : t.rt = s.rt.set k rt) (hk : rt.enabled = true → (s.rt.get k).enabled = true) : OpensNone s t := by
  refine ⟨hregs, hglobals, fun j he => ?_⟩
  by_cases hj : j = k
  · subst hj
    rw [hrt, Tri.get_set_self] at he
    exact hk he
  · rwa [hrt, Tri.get_set_ne _ _ hj] at he

theorem OpensNone.ite {c : Prop} [Decidable c] (ht : OpensNone s t) (hu : OpensNone s u) :
    OpensNone s (if c then t else u) := by
  split
  · exact ht
  · exact hu

theorem hostSide_keepsGlobals (k : StreamId) (s : State) : KeepsGlobals s (hostSide k s) :=
  ⟨hostSide_globCnt k s, hostSide_globSta k s, hostSide_cas k s, hostSide_mix k s⟩

theorem hostSide_opensNone (k : StreamId) (s : State) : OpensNone s (hostSide k s) := by
  rcases hostSide_rt k s with ⟨n, hrt⟩ | ⟨bytes, -, hrt⟩ <;>
    exact .of_set (hostSide_regs k s) (hostSide_keepsGlobals k s) hrt fun he => he

theorem tickHostSide_opensNone (k : StreamId) (s : State) : OpensNone s (tickHostSide k s) :=
  .ite (.of_set rfl ⟨rfl, rfl, rfl, rfl⟩ rfl fun he => he) (hostSide_opensNone k s)

theorem rearm_opensNone (k : StreamId) (s : State) : OpensNone s (rearm k s) := by
  refine .of_set rfl ⟨rfl, rfl, rfl, rfl⟩ rfl fun he => ?_
  split at he <;> exact he

theorem workerStep_opensNone (k : StreamId) (s : State) : OpensNone s (workerStep k s) := by
  have hwoken : OpensNone s (s.modRt k fun rt => { rt with workerSignalled := false }) :=
    .of_set rfl ⟨rfl, rfl, rfl, rfl⟩ rfl fun he => he
  exact .ite (.trans hwoken (.ite (.of_set rfl ⟨rfl, rfl, rfl, rfl⟩ rfl fun he => he)
    (.ite (hostSide_opensNone k _) (.refl _)))) (.refl s)

theorem shutdownWorker_opensNone (k : StreamId) (s : State) : OpensNone s (shutdownWorker k s) :=
  .ite (.of_set rfl ⟨rfl, rfl, rfl, rfl⟩ rfl fun he => he) (.refl s)

theorem releaseRing_opensNone (k : StreamId) (s : State) : OpensNone s (releaseRing k s) :=
  .ite (.refl s) (.of_set rfl ⟨rfl, rfl, rfl, rfl⟩ rfl fun he => he)

theorem completeStore_opensNone (n : Nat) (s : State) : OpensNone s (completeStore n s) := by
  rw [completeStore_eq]
  exact ⟨rfl, ⟨rfl, rfl, rfl, rfl⟩, fun _ h => h⟩

theorem tick_guestOk (k : StreamId) (h : GuestOk s) : GuestOk (tick k s) := by
  have hdata : GuestOk (tickData k s) := by
    simp only [tickData]
    split
    · exact (tickHostSide_opensNone k _).guestOk (transfer_guestOk _ h)
    · exact transfer_guestOk _ ((tickHostSide_opensNone k s).guestOk h)
  unfold tick
  split
  · exact (rearm_opensNone k _).guestOk hdata
  · exact h

/-! ## Loading a record -/

/-- A stream is enabled only where the record says so, and then its control has RPBM set (R237). -/
theorem loadStream_guestOk {r : SaveRecord} (hr : RecordOk r) (k : StreamId) (h : GuestOk s)
    (hregs : s.regs = r.streams) : GuestOk (loadStream r k s) := by
  have happlied : GuestOk (reapplyHost s) :=
    guestOk_of_regs_eq h (reapplyHost_regs s) (reapplyHost_globCnt s) (reapplyHost_globSta s)
      (.inl (reapplyHost_cas s)) fun _ he => by rwa [reapplyHost_rt] at he
  unfold loadStream
  split
  · rename_i henabled
    obtain ⟨-, hrun, -⟩ := ((recordOk_iff r).1 hr).2 k
    refine enable_guestOk happlied ?_
    rw [reapplyHost_regs, hregs]
    exact hrun henabled
  · exact happlied

theorem disableAll_rt (s : State) (k : StreamId) :
    (disable .mc (disable .po (disable .pi s))).rt.get k = closeRuntime s.cfg (s.rt.get k) := by
  cases k <;> rfl

/-- A load closes every stream before it takes the record's registers, so they are judged as those of closed streams. -/
theorem loadRecord_guestOk {r : SaveRecord} (hr : RecordOk r) (s : State) : GuestOk (loadRecord r s) := by
  obtain ⟨hglobals, hstreams⟩ := (recordOk_iff r).1 hr
  have hclosed (k : StreamId) : ((disable .mc (disable .po (disable .pi s))).rt.get k).enabled = false := by
    rw [disableAll_rt]
    exact (closeRuntime_spec s.cfg (s.rt.get k)).1
  have hstart : GuestOk { disable .mc (disable .po (disable .pi s)) with
      globCnt := r.globCnt, globSta := r.globSta, cas := r.cas, regs := r.streams, mix := r.mix } := by
    refine (guestOk_iff _).2 ⟨hglobals, fun k => ?_⟩
    obtain ⟨hregs, -, hbehind⟩ := hstreams k
    exact ⟨hregs, fun he => absurd ((hclosed k).symm.trans he) (by decide), hbehind⟩
  have hpi := loadStream_guestOk hr .pi hstart rfl
  have hpo := loadStream_guestOk hr .po hpi (loadStream_regs _ _ _)
  exact loadStream_guestOk hr .mc hpo ((loadStream_regs _ _ _).trans (loadStream_regs _ _ _))

/-! ## Steps -/

theorem agentStep_guestOk (e : AgentEvent) (hload : loadsGoodRecord (.agent e)) (h : GuestOk s) :
    GuestOk (agentStep e s) := by
  cases e with
  | tick k => exact tick_guestOk k h
  | worker k => exact (workerStep_opensNone k s).guestOk h
  | clock delta => exact h
  | save => exact h
  | load r => exact loadRecord_guestOk hload s
  | deviceReset => exact deviceReset_guestOk h
  | shutdown k => exact (shutdownWorker_opensNone k s).guestOk h
  | release k => exact (releaseRing_opensNone k s).guestOk h
  | guestStore a b => exact h
  | storeDone n => exact (completeStore_opensNone n s).guestOk h

end

/-- Settles O53: taking the event off the queue keeps `GuestOk`, and so does every transaction and every agent's step
but the load of a foreign record. -/
theorem stepKeepsGuestRegistersGood : Obligations.StepKeepsGuestRegistersGood := fun s _ h hload hstep =>
  guestOk_keptByPorts.step hstep (show GuestOk (takeEvent s) from h) fun a ha => agentStep_guestOk a (ha ▸ hload) h

end Sys2Proof.Machine
end

section
/-!
PROOFS. What a step leaves alone: a contribution while an interrupt bit is set (the passage on partial clears), and in a
tick or a worker's step the other streams.
-/

namespace Sys2Proof.Machine

open Sys2Proof

/-! ## Contributions -/

theorem or_gsStream_and_ne_zero (k : StreamId) (g : Dword) : (g ||| gsStream k) &&& gsStream k ≠ 0 := by
  have hset (i : Nat) (hi : i < 32) : (g ||| BitVec.twoPow 32 i) &&& BitVec.twoPow 32 i ≠ 0#32 :=
    (and_twoPow_ne_zero_iff _ hi).2 (by simp [hi])
  cases k
  exacts [hset 5 (by decide), hset 6 (by decide), hset 7 (by decide)]

/-- A status update withdraws a contribution only where the interrupt bits change to all clear (R170). -/
theorem contribution_withdrawn {k : StreamId} {sr v : Word} {cr : Byte} {g : Dword} (hg : g &&& gsStream k ≠ 0)
    (hc : contribution k sr v cr g &&& gsStream k = 0) : v &&& 0x001C ≠ sr &&& 0x001C ∧ v &&& 0x001C = 0 := by
  by_cases hsame : v &&& 0x001C = sr &&& 0x001C
  · rw [contribution_of_same k hsame] at hc
    exact absurd hc hg
  refine ⟨hsame, not_not.1 fun hv => ?_⟩
  by_cases hq : qualifies (v &&& 0x001C) cr = true
  · rw [contribution_of_qualifies k g hsame hv hq] at hc
    exact or_gsStream_and_ne_zero k g hc
  · rw [contribution_of_not_qualifies k g hsame hv hq] at hc
    exact hg hc

/-- Stream `k` contributes, or its interrupt bits are all clear. -/
def WithdrawnClear (k : StreamId) (s : State) : Prop :=
  s.globSta &&& gsStream k = 0 → (s.regs.get k).sr &&& 0x001C = 0

section
variable {s t : State} {j k : StreamId}

theorem WithdrawnClear.congr (h : WithdrawnClear k s) (hsta : t.globSta &&& gsStream k = s.globSta &&& gsStream k)
    (hsr : (t.regs.get k).sr &&& 0x001C = (s.regs.get k).sr &&& 0x001C) : WithdrawnClear k t := fun hc =>
  hsr.trans (h (hsta.symm.trans hc))

/-- A register write that keeps its stream's interrupt bits. -/
theorem WithdrawnClear.of_set {r : StreamRegs} (h : WithdrawnClear k s) (hsta : t.globSta = s.globSta)
    (hregs : t.regs = s.regs.set j r) (hint : r.sr &&& 0x001C = (s.regs.get j).sr &&& 0x001C) : WithdrawnClear k t := by
  refine h.congr (by rw [hsta]) ?_
  rw [hregs, Tri.get_set]
  split
  · rename_i hk
    rw [hk]
    exact hint
  · rfl

/-- A status update that sets no interrupt bit: one that clears them all, or leaves the contribution. -/
theorem WithdrawnClear.of_contribution {r : StreamRegs} {v : Word} {cr : Byte} (h : WithdrawnClear k s)
    (hregs : t.regs = s.regs.set j r)
    (hsta : t.globSta = contribution j (s.regs.get j).sr v cr s.globSta) (hv : r.sr &&& 0x001C = v &&& 0x001C)
    (hclear : (s.regs.get j).sr &&& 0x001C = 0 → v &&& 0x001C = 0) : WithdrawnClear k t := by
  by_cases hk : k = j
  · subst hk
    intro hc
    rw [hregs, Tri.get_set_self, hv]
    rw [hsta] at hc
    by_cases hg : s.globSta &&& gsStream k = 0
    · exact hclear (h hg)
    · exact (contribution_withdrawn hg hc).2
  · refine h.congr ?_ ?_
    · rw [hsta, contribution_other k j _ _ _ _ hk]
    · rw [hregs, Tri.get_set_ne _ _ hk]

theorem WithdrawnClear.of_opensNone (h : WithdrawnClear k s) (hst : OpensNone s t) : WithdrawnClear k t := by
  obtain ⟨hregs, ⟨-, hsta, -⟩, -⟩ := hst
  exact h.congr (by rw [hsta]) (by rw [hregs])

theorem deviceReset_withdrawnClear (k : StreamId) (s : State) : WithdrawnClear k (deviceReset s) := by
  intro _
  rw [deviceReset_regs]
  show (0x0001 &&& 0x001C : Word) = 0
  decide

theorem writeLvi_withdrawnClear (d : Byte) (h : WithdrawnClear k s) : WithdrawnClear k (writeLvi j d s) := by
  by_cases hrestart : (s.regs.get j).cr.getLsbD 0 = true ∧ (s.regs.get j).sr.getLsbD 0 = true
  · rw [writeLvi_of_restarting hrestart, advance_modRegs]
    refine h.of_set rfl (by rw [State.modRegs_regs, Tri.set_set]) ?_
    rw [Tri.get_set_self]
    exact srResumed_int _
  · rw [writeLvi_of_not_restarting hrestart]
    exact h.of_set rfl rfl rfl

theorem startStream_withdrawnClear (d : Byte) (h : WithdrawnClear k s) : WithdrawnClear k (startStream j d s) := by
  have hadvanced : WithdrawnClear k
      (advance j (s.modRegs j fun r => { r with cr := crOperand d, sr := srResumed r.sr })) := by
    rw [advance_modRegs]
    exact h.of_set rfl rfl (srResumed_int _)
  exact hadvanced.congr (by rw [startStream, enable_globSta]) (by rw [startStream, enable_regs])

/-- No transaction sets an interrupt bit, so none leaves one without the contribution. -/
theorem withdrawnClear_keptByPorts (k : StreamId) : KeptByPorts (WithdrawnClear k) where
  quiet hq h := h.congr (by rw [hq.globSta]) (by rw [hq.regs])
  base _ _ _ h := h.of_set rfl rfl rfl
  lastValid _ d _ h := writeLvi_withdrawnClear d h
  status j d _ h := h.of_contribution rfl rfl rfl fun hz => by
    rw [srWritten_eq]
    exact and_and_eq_zero hz
  streamReset j u h := h.of_contribution (streamReset_regs j u) (streamReset_globSta j u) rfl fun _ => rfl
  stop j d u _ _ h := h.of_set rfl (stopStream_regs j d u) (by
    rw [BitVec.and_or_distrib_right]
    exact BitVec.or_zero)
  start j d u _ _ _ h := startStream_withdrawnClear d h
  control _ _ _ _ _ _ h := h.of_set rfl rfl rfl
  globCnt d u h := h.congr (by unfold writeGlobCnt; split <;> rfl) (by unfold writeGlobCnt; split <;> rfl)
  globSta d u h := h.congr (globStaWritten_contribution u.globSta d k) rfl
  reopen j u h := h.congr (by rw [reopen_globSta]) (by rw [reopen_regs])
  deviceReset _ := deviceReset_withdrawnClear k _

/-- A completion clears no interrupt bit (R153). -/
theorem srCompleted_and_eq_zero {sr : Word} {ioc underrun : Bool} (h : srCompleted sr ioc underrun &&& 0x001C = 0) :
    sr &&& 0x001C = 0 := by
  have hor {x y m : Word} (h : (x ||| y) &&& m = 0#16) : x &&& m = 0#16 := by
    rw [BitVec.and_or_distrib_right, BitVec.or_eq_zero_iff] at h
    exact h.1
  cases ioc <;> cases underrun
  exacts [h, hor (hor (hor h)), hor h, hor (hor (hor (hor h)))]

/-- A completion keeps each contribution. -/
theorem complete_contributes (h : s.globSta &&& gsStream k ≠ 0) : (complete j s).1.globSta &&& gsStream k ≠ 0 := by
  have hkept (ioc underrun : Bool) : contribution j (s.regs.get j).sr (srCompleted (s.regs.get j).sr ioc underrun)
      (s.regs.get j).cr s.globSta &&& gsStream k ≠ 0 := by
    by_cases hk : k = j
    · subst hk
      intro hc
      obtain ⟨hne, hclear⟩ := contribution_withdrawn h hc
      exact hne (hclear.trans (srCompleted_and_eq_zero hclear).symm)
    · rwa [contribution_other k j _ _ _ _ hk]
  rcases complete_cases j s with ⟨-, e⟩ | ⟨-, e⟩ <;> rw [e] <;> exact hkept _ _

/-- A call keeps each contribution: only its completions write one. -/
theorem transfer_contributes (m : Nat) (h : s.globSta &&& gsStream k ≠ 0) :
    (transfer j m s).1.globSta &&& gsStream k ≠ 0 :=
  transfer_keeps j (fun u => u.globSta &&& gsStream k ≠ 0) (fun _ hu _ _ => hu)
    (fun u n hu _ => by rwa [moveChunk_globSta]) (fun _ hu _ => complete_contributes hu) m s h

theorem tick_contributes (h : s.globSta &&& gsStream k ≠ 0) : (tick j s).globSta &&& gsStream k ≠ 0 := by
  have hdata : (tickData j s).globSta &&& gsStream k ≠ 0 := by
    simp only [tickData]
    split
    · rw [tickHostSide_globSta]
      exact transfer_contributes _ h
    · refine transfer_contributes _ ?_
      rwa [tickHostSide_globSta]
  unfold tick
  split
  · exact hdata
  · exact h

/-- An agent's step but a load withdraws a contribution only by clearing every interrupt bit. -/
theorem agentStep_withdrawnClear (e : AgentEvent) (hload : ∀ r, e ≠ .load r) (h : s.globSta &&& gsStream k ≠ 0) :
    WithdrawnClear k (agentStep e s) := by
  have hs : WithdrawnClear k s := fun hc => absurd hc h
  cases e with
  | tick j => exact fun hc => absurd hc (tick_contributes h)
  | worker j => exact hs.of_opensNone (workerStep_opensNone j s)
  | clock delta => exact hs
  | save => exact hs
  | load r => exact absurd rfl (hload r)
  | deviceReset => exact deviceReset_withdrawnClear k s
  | shutdown j => exact hs.of_opensNone (shutdownWorker_opensNone j s)
  | release j => exact hs.of_opensNone (releaseRing_opensNone j s)
  | guestStore a b => exact hs
  | storeDone n => exact hs.of_opensNone (completeStore_opensNone n s)

end

/-- Settles O27: a stream that contributes meets `WithdrawnClear`, and every step but a load leaves a state that
does. -/
theorem withdrawalNeedsAllBitsClear : Obligations.WithdrawalNeedsAllBitsClear := by
  intro s t k hstep hload hbefore
  have htaken : WithdrawnClear k (takeEvent s) := fun hc => absurd hc hbefore
  refine (withdrawnClear_keptByPorts k).step hstep htaken fun a ha =>
    agentStep_withdrawnClear a (fun r hr => ?_) hbefore
  exact hload r (ha.trans (congrArg _ hr))

/-! ## Ticks: what they touch -/

section
variable {s t u : State} {j k : StreamId}

/-- From `s` to `t` nothing of stream `j` changes, nor a global register but the other contributions, nor the codec. -/
structure LeavesStream (j : StreamId) (s t : State) : Prop where
  regs : t.regs.get j = s.regs.get j
  rt : t.rt.get j = s.rt.get j
  contribution : t.globSta &&& gsStream j = s.globSta &&& gsStream j
  globCnt : t.globCnt = s.globCnt
  cas : t.cas = s.cas
  mix : t.mix = s.mix

theorem LeavesStream.refl (j : StreamId) (s : State) : LeavesStream j s s := ⟨rfl, rfl, rfl, rfl, rfl, rfl⟩

theorem LeavesStream.trans (hst : LeavesStream j s t) (htu : LeavesStream j t u) : LeavesStream j s u :=
  ⟨htu.regs.trans hst.regs, htu.rt.trans hst.rt, htu.contribution.trans hst.contribution,
    htu.globCnt.trans hst.globCnt, htu.cas.trans hst.cas, htu.mix.trans hst.mix⟩

/-- A write of another stream's runtime state. -/
theorem LeavesStream.of_rt_set {rt : StreamRuntime} (hj : j ≠ k) (hregs : t.regs = s.regs) (hglobals : KeepsGlobals s t)
    (hrt : t.rt = s.rt.set k rt) : LeavesStream j s t := by
  obtain ⟨hcnt, hsta, hcas, hmix⟩ := hglobals
  exact ⟨by rw [hregs], by rw [hrt, Tri.get_set_ne _ _ hj], by rw [hsta], hcnt, hcas, hmix⟩

theorem hostSide_leavesStream (hj : j ≠ k) (s : State) : LeavesStream j s (hostSide k s) := by
  rcases hostSide_rt k s with ⟨n, hrt⟩ | ⟨bytes, -, hrt⟩ <;>
    exact .of_rt_set hj (hostSide_regs k s) (hostSide_keepsGlobals k s) hrt

theorem tickHostSide_leavesStream (hj : j ≠ k) (s : State) : LeavesStream j s (tickHostSide k s) := by
  unfold tickHostSide
  split
  · exact .of_rt_set hj rfl ⟨rfl, rfl, rfl, rfl⟩ rfl
  · exact hostSide_leavesStream hj s

theorem complete_leavesStream (hj : j ≠ k) (s : State) : LeavesStream j s (complete k s).1 := by
  have hstatus (v : Word) : LeavesStream j s (updateStatus k v s) :=
    ⟨Tri.get_set_ne _ _ hj, rfl, contribution_other j k _ _ _ _ hj, rfl, rfl, rfl⟩
  have hadvance (u : State) : LeavesStream j u (advance k u) :=
    ⟨by rw [advance_regs, Tri.get_set_ne _ _ hj], rfl, rfl, rfl, rfl, rfl⟩
  rcases complete_cases k s with ⟨-, e⟩ | ⟨-, e⟩ <;> rw [e]
  · exact hstatus _
  · exact (hstatus _).trans (hadvance _)

theorem transfer_leavesStream (hj : j ≠ k) (m : Nat) (s : State) : LeavesStream j s (transfer k m s).1 := by
  refine transfer_keeps k (LeavesStream j s) (fun u hu _ _ => hu.trans ?_) (fun u n hu _ => hu.trans ?_)
    (fun u hu _ => hu.trans (complete_leavesStream hj u)) m s (.refl j s)
  · exact ⟨Tri.get_set_ne _ _ hj, rfl, rfl, rfl, rfl, rfl⟩
  · exact ⟨by rw [moveChunk_regs, Tri.get_set_ne _ _ hj], by rw [moveChunk_rt, Tri.get_set_ne _ _ hj],
      by rw [moveChunk_globSta], moveChunk_globCnt _ _ _, moveChunk_cas _ _ _, moveChunk_mix _ _ _⟩

theorem tick_leavesStream (hj : j ≠ k) (s : State) : LeavesStream j s (tick k s) := by
  have hdata : LeavesStream j s (tickData k s) := by
    simp only [tickData]
    split
    · exact (transfer_leavesStream hj _ s).trans (tickHostSide_leavesStream hj _)
    · exact (tickHostSide_leavesStream hj s).trans (transfer_leavesStream hj _ _)
  unfold tick
  split
  · exact hdata.trans (.of_rt_set hj rfl ⟨rfl, rfl, rfl, rfl⟩ rfl)
  · exact .refl j s

theorem workerStep_leavesStream (hj : j ≠ k) (s : State) : LeavesStream j s (workerStep k s) := by
  have hwoken : LeavesStream j s (s.modRt k fun rt => { rt with workerSignalled := false }) :=
    .of_rt_set hj rfl ⟨rfl, rfl, rfl, rfl⟩ rfl
  unfold workerStep
  dsimp only
  split
  · split
    · exact hwoken.trans (.of_rt_set hj rfl ⟨rfl, rfl, rfl, rfl⟩ rfl)
    · split
      · exact hwoken.trans (hostSide_leavesStream hj _)
      · exact hwoken
  · exact .refl j s

end

/-- Settles O58: the two steps leave every other stream, by the parts they are made of. -/
theorem ticksLeaveOtherStreamsAlone : Obligations.TicksLeaveOtherStreamsAlone := by
  intro j k s hj e he
  have hleaves : LeavesStream j s (agentStep e s) := by
    rcases he with rfl | rfl
    · exact tick_leavesStream hj s
    · exact workerStep_leavesStream hj s
  obtain ⟨hregs, hrt, hcontribution, hcnt, hcas, hmix⟩ := hleaves
  exact ⟨hregs, hrt, hcontribution, hcnt, hcas, hmix⟩

end Sys2Proof.Machine
end

section
/-!
PROOFS. What a step leaves of the world outside: guest memory but in an input's tick or the completion of a store (R61,
R152), and the clock's past and the platform (R12, R180). With them what a step runs (R61, R255) and the state after reset
(R45, R239).
-/

namespace Sys2Proof.Machine

open Sys2Proof

/-! ## Ticks -/

section
variable (k : StreamId) (s : State)

theorem transfer_cfg (m : Nat) : (transfer k m s).1.cfg = s.cfg := by
  obtain ⟨-, -, -, -, -, hcfg, -⟩ := transfer_unchanged k m s
  exact hcfg

theorem transfer_vnow (m : Nat) : (transfer k m s).1.vnow = s.vnow := by
  obtain ⟨-, -, -, -, hvnow, -⟩ := transfer_unchanged k m s
  exact hvnow

theorem transfer_host (m : Nat) : (transfer k m s).1.host = s.host := by
  obtain ⟨-, -, -, -, -, -, -, -, hhost, -⟩ := transfer_unchanged k m s
  exact hhost

theorem complete_mem : (complete k s).1.mem = s.mem := by
  rcases complete_cases k s with ⟨-, e⟩ | ⟨-, e⟩ <;> rw [e] <;> rfl

/-- A call of the output writes no guest memory (R152). -/
theorem transfer_mem_of_output {k : StreamId} (hk : k.isOut = true) (m : Nat) (s : State) :
    (transfer k m s).1.mem = s.mem := by
  refine transfer_keeps k (fun t => t.mem = s.mem) (fun _ h _ _ => h) (fun u n h _ => ?_)
    (fun u h _ => (complete_mem k u).trans h) m s rfl
  rw [moveChunk_mem, if_pos hk]
  exact h

theorem tickData_cfg : (tickData k s).cfg = s.cfg := by
  simp only [tickData]
  split <;> simp [transfer_cfg]

theorem tickData_vnow : (tickData k s).vnow = s.vnow := by
  simp only [tickData]
  split <;> simp [transfer_vnow]

theorem tickData_host : (tickData k s).host = s.host := by
  simp only [tickData]
  split <;> simp [transfer_host]

theorem tick_cfg : (tick k s).cfg = s.cfg := by
  unfold tick
  split
  · exact tickData_cfg k s
  · rfl

theorem tick_vnow : (tick k s).vnow = s.vnow := by
  unfold tick
  split
  · exact tickData_vnow k s
  · rfl

theorem tick_mem_of_output {k : StreamId} (hk : k.isOut = true) (s : State) : (tick k s).mem = s.mem := by
  unfold tick
  split
  · rw [rearm_mem, tickData, if_pos hk, tickHostSide_mem, transfer_mem_of_output hk]
  · rfl

end

/-! ## The other agents -/

section
variable (s : State)

theorem loadRecord_mem (r : SaveRecord) : (loadRecord r s).mem = s.mem := by
  simp [loadRecord]

theorem loadRecord_cfg (r : SaveRecord) : (loadRecord r s).cfg = s.cfg := by
  simp [loadRecord]

theorem loadRecord_vnow (r : SaveRecord) : (loadRecord r s).vnow = s.vnow := by
  simp [loadRecord]

theorem shutdownWorker_keepsOutside (k : StreamId) : KeepsOutside s (shutdownWorker k s) := by
  unfold shutdownWorker
  split <;> exact .refl s

theorem releaseRing_keepsOutside (k : StreamId) : KeepsOutside s (releaseRing k s) := by
  unfold releaseRing
  split <;> exact .refl s

/-- Only a tick of an input and the completion of a store write guest memory. -/
theorem agentStep_mem {e : AgentEvent} (h : mayWriteMemory (.agent e) = false) : (agentStep e s).mem = s.mem := by
  cases e with
  | tick k => exact tick_mem_of_output (by simpa [mayWriteMemory] using h) s
  | worker k => exact workerStep_mem k s
  | clock delta => rfl
  | save => rfl
  | load r => exact loadRecord_mem s r
  | deviceReset => exact deviceReset_mem s
  | shutdown k => exact (shutdownWorker_keepsOutside s k).1
  | release k => exact (releaseRing_keepsOutside s k).1
  | guestStore a b => rfl
  | storeDone n => cases h

end

/-- From `s` to `t` the clock does not go back and the platform stays. -/
def ClockNotBack (s t : State) : Prop := s.vnow ≤ t.vnow ∧ t.cfg = s.cfg

section
variable {s t : State}

theorem ClockNotBack.of_eq (hvnow : t.vnow = s.vnow) (hcfg : t.cfg = s.cfg) : ClockNotBack s t :=
  ⟨BitVec.le_of_eq hvnow.symm, hcfg⟩

theorem ClockNotBack.of_keepsOutside (h : KeepsOutside s t) : ClockNotBack s t := by
  obtain ⟨-, -, hvnow, hcfg, -⟩ := h
  exact .of_eq hvnow hcfg

theorem agentStep_clockNotBack (e : AgentEvent) (s : State) : ClockNotBack s (agentStep e s) := by
  cases e with
  | tick k => exact .of_eq (tick_vnow k s) (tick_cfg k s)
  | worker k => exact .of_eq (workerStep_vnow k s) (workerStep_cfg k s)
  | clock delta => exact ⟨le_clockAdd s.vnow delta.toNat, rfl⟩
  | save => exact .of_eq rfl rfl
  | load r => exact .of_eq (loadRecord_vnow s r) (loadRecord_cfg s r)
  | deviceReset => exact .of_keepsOutside (deviceReset_keepsOutside s)
  | shutdown k => exact .of_keepsOutside (shutdownWorker_keepsOutside s k)
  | release k => exact .of_keepsOutside (releaseRing_keepsOutside s k)
  | guestStore a b => exact .of_eq rfl rfl
  | storeDone n =>
    show ClockNotBack s (completeStore n s)
    rw [completeStore_eq]
    exact .of_eq rfl rfl

/-- What a guest can read of memory depends on memory and the platform only. -/
theorem guestByte_congr (hmem : t.mem = s.mem) (hcfg : t.cfg = s.cfg) (a : Nat) : t.guestByte a = s.guestByte a := by
  have hram : t.isRam a = s.isRam a := by rw [State.isRam, State.isRam, hcfg]
  rw [State.guestByte, State.guestByte, hram, hmem]

end

/-! ## Steps -/

/-- Settles O54: transactions stay inside the device, and of the agents only the two named write memory. -/
theorem onlyInputTicksAndStoresWriteMemory : Obligations.OnlyInputTicksAndStoresWriteMemory := by
  intro s t hstep hevent
  have hports : KeptByPorts fun u => u.mem = s.mem ∧ u.cfg = s.cfg :=
    keptByPorts_of_keepsOutside fun ⟨hmem, _, _, hcfg, _⟩ h => ⟨hmem.trans h.1, hcfg.trans h.2⟩
  obtain ⟨hmem, hcfg⟩ := hports.step hstep ⟨rfl, rfl⟩ fun a ha =>
    ⟨agentStep_mem (takeEvent s) (ha ▸ hevent), (agentStep_clockNotBack a (takeEvent s)).2⟩
  exact ⟨hmem, guestByte_congr hmem hcfg⟩

/-- Settles O56: transactions stay inside the device, and of the agents only the host's advance moves the clock. -/
theorem clockNeverGoesBack : Obligations.ClockNeverGoesBack := by
  intro s t hstep
  have hports : KeptByPorts (ClockNotBack s) :=
    keptByPorts_of_keepsOutside fun ⟨_, _, hvnow, hcfg, _⟩ h => ⟨hvnow ▸ h.1, hcfg.trans h.2⟩
  exact hports.step hstep (.of_eq rfl rfl) fun a _ => agentStep_clockNotBack a (takeEvent s)

theorem step_of_pending {s : State} {e : Event} {rest : List Event} (h : s.pending = e :: rest) :
    step s = runEvent e { s with pending := rest, host := Config.hostAnswers s.draws, draws := s.draws + 1 } := by
  rw [step, nextEvent, takeEvent, h]
  rfl

theorem runPort_of_decode {t : Word} {d : Dword} {i : Instr} (h : decode t d = .ok i) (s : State) :
    runPort t d s = exec i s := by
  rw [runPort, h]

theorem runEvent_access_of_busWord {write : Bool} {w : AccessWidth} {port : Nat} {s : State} {t : Word}
    (h : busWord s.cfg write w port = some t) (d : Dword) : runEvent (.access write w port d) s = runPort t d s := by
  simp only [runEvent, h]

/-- Settles O48: a queued event is the next one, and a port address names the word at its offset. -/
theorem stepRunsNextEvent : Obligations.StepRunsNextEvent := by
  intro s rest u
  refine ⟨fun t d i hp hi => ?_, fun write w off d i hp hi => ?_, fun write w off d i hok hp hi => ?_,
    fun write w port d hp hnabm hnam => ?_, fun e hp => step_of_pending hp⟩
  · rw [step_of_pending hp]
    exact runPort_of_decode hi u
  · rw [step_of_pending hp]
    exact (runEvent_access_of_busWord (s := u) (busWord_nabm s.cfg write w off) d).trans (runPort_of_decode hi u)
  · rw [step_of_pending hp]
    exact (runEvent_access_of_busWord (s := u) (busWord_nam s.cfg hok write w off) d).trans (runPort_of_decode hi u)
  · have hnone : busWord s.cfg write w port = none := (if_neg hnabm).trans (if_neg hnam)
    rw [step_of_pending hp]
    simp only [runEvent, hnone]
    rfl

/-! ## Reset -/

theorem reset_regs_get (k : StreamId) : State.reset.regs.get k = StreamRegs.reset := by
  cases k <;> rfl

theorem reset_rt_get (k : StreamId) : State.reset.rt.get k = StreamRuntime.reset := by
  cases k <;> rfl

theorem deviceReset_reset_mix : (deviceReset State.reset).mix = State.reset.mix := by
  rw [deviceReset_mix]
  rfl

/-- Settles O50: the fields of the constructed state; its bank is the one a device reset leaves. -/
theorem resetStateIsIdle : Obligations.ResetStateIsIdle := by
  refine ⟨fun k => ?_, rfl, rfl, rfl, rfl, exec_globStaRead_of_zero rfl, fun q => ?_, Tri.ext_get fun k => ?_,
    deviceReset_reset_mix⟩
  · rw [reset_regs_get, reset_rt_get]
    exact ⟨rfl, rfl, rfl, rfl⟩
  · rw [← deviceReset_reset_mix]
    exact deviceReset_mix_suggested rfl q
  · rw [deviceReset_regs, reset_regs_get]
    rfl

/-- Settles O51: memory is empty, every stream's runtime state is idle and its registers are those of a reset stream. -/
theorem resetIsGood : Obligations.ResetIsGood := by
  have hrt : RuntimeOk State.reset.cfg StreamRuntime.reset := by decide
  have hregs : RegsOk StreamRegs.reset := regsOk_reset rfl
  refine ⟨(machineOk_iff _).2 ⟨by decide, fun k => ?_⟩, (guestOk_iff _).2 ⟨by decide, fun k => ?_⟩⟩
  · rw [reset_rt_get]
    exact hrt
  · rw [reset_rt_get, reset_regs_get]
    exact ⟨hregs, fun h => absurd h (by decide), fun h => absurd BitVec.zero_and h⟩

end Sys2Proof.Machine
end

section
/-!
PROOFS. Reads and writes of guest memory (R63, R64), and what a transfer call answers and moves (R152 to R155).
-/

namespace Sys2Proof.Machine

open Sys2Proof

/-! ## Guest memory -/

theorem toNat_add_ofNat (a : Addr) (n : Nat) : (a + BitVec.ofNat 32 n).toNat = (a.toNat + n) % 2 ^ 32 := by
  rw [BitVec.toNat_add, BitVec.toNat_ofNat, Nat.add_mod_mod]

theorem memRead_one (s : State) (a : Addr) : s.memRead a 1 = [s.readByte 0 a.toNat] := by
  have haddr : (a + BitVec.ofNat 32 0).toNat = a.toNat := by rw [toNat_add_ofNat]; omega
  simp only [State.memRead, List.range_one, List.map_singleton, haddr]

theorem memRead_succ (s : State) (a : Addr) (n : Nat) :
    s.memRead a (n + 1) = s.memRead a n ++ [s.readByte n ((a.toNat + n) % 2 ^ 32)] := by
  rw [State.memRead, List.range_succ, List.map_append, List.map_singleton, toNat_add_ofNat]
  rfl

theorem storesTo_eq_nil {s : State} {a : Nat} (h : ∀ c ∈ s.racing, c.1 ≠ a) : s.storesTo a = [] :=
  List.filterMap_eq_nil_iff.2 fun c hc => if_neg (h c hc)

theorem writeByte_of_not_ram {s : State} {a : Nat} (h : s.isRam a = false) (b : Byte) : s.writeByte a b = s :=
  if_neg (ne_true_of_eq_false h)

/-- Settles O28: the byte written is the byte listed, and no store in flight races the read. -/
theorem guestMemoryReadsLastWrite : Obligations.GuestMemoryReadsLastWrite := by
  intro a b s t
  refine ⟨fun hram hquiet => ?_, fun c hc => ?_, fun hram => ⟨writeByte_of_not_ram hram b, ?_⟩, memRead_succ s a⟩
  · have hbyte : t.guestByte a.toNat = some b := by rw [guestByte_writeByte, if_pos ⟨rfl, hram⟩]
    have hracing : t.racing = s.racing := by
      rw [show t = s.writeByte a.toNat b from rfl, writeByte_mem_only]
    have hnone : t.storesTo a.toNat = [] := storesTo_eq_nil (hracing ▸ hquiet)
    rw [memRead_one, readByte_listed t 0 a.toNat b hbyte hnone]
  · rw [guestByte_writeByte, if_neg fun h => hc h.1]
  · rw [memRead_one, readByte_unbacked s 0 a.toNat hram]

/-! ## The answer of a call -/

section
variable {k : StreamId}

theorem transfer_of_running {s : State} (hdch : (s.regs.get k).sr.getLsbD 0 = false)
    (hbcis : (s.regs.get k).sr.getLsbD 3 = false) (m : Nat) :
    transfer k m s = moveLoop k m m (if (s.regs.get k).bdValid then s else fetchBdle k s) := by
  have hhalted : isHalted (s.regs.get k).sr = false := hdch
  have hpending : isCompletionPending (s.regs.get k).sr = false := hbcis
  simp [transfer, hhalted, hpending]

/-- How a call that was not halted ends (R155): OK with the stream still running, or EOF at the last valid index with
the descriptor exhausted. -/
def EndsAsUnderrunOrRuns (k : StreamId) : State × TransferResult → Prop
  | (t, .ok) => (t.regs.get k).sr.getLsbD 0 = false
  | (t, .eof) =>
    (t.regs.get k).sr &&& 0x0007 = 0x0007 ∧ (t.regs.get k).civ = (t.regs.get k).lvi ∧ (t.regs.get k).picb = 0

theorem or_and_self_right {w : Nat} (x m : BitVec w) : (x ||| m) &&& m = m := by
  refine BitVec.eq_of_getLsbD_eq fun i _ => ?_
  rw [BitVec.getLsbD_and, BitVec.getLsbD_or]
  cases m.getLsbD i <;> simp

theorem complete_ends {s : State} (hdch : (s.regs.get k).sr.getLsbD 0 = false) (hpicb : (s.regs.get k).picb = 0) :
    EndsAsUnderrunOrRuns k (complete k s) := by
  rcases complete_cases k s with ⟨hlast, e⟩ | ⟨-, e⟩ <;> rw [e]
  · rw [EndsAsUnderrunOrRuns, updateStatus_regs, Tri.get_set_self, srCompleted_underrun]
    exact ⟨or_and_self_right _ _, hlast, hpicb⟩
  · rw [EndsAsUnderrunOrRuns, advance_regs, Tri.get_set_self, updateStatus_regs, Tri.get_set_self,
      srCompleted_advancing]
    dsimp only
    split
    · rw [BitVec.getLsbD_or, hdch]
      rfl
    · exact hdch

theorem moveLoop_ends (f : Nat) : ∀ (m : Nat) (s : State), (s.regs.get k).sr.getLsbD 0 = false →
    EndsAsUnderrunOrRuns k (moveLoop k f m s) := by
  induction f with
  | zero => exact fun _ _ hdch => hdch
  | succ f ih =>
    intro m s hdch
    have hmoved : ((moveChunk k (moveSize k m s) s).regs.get k).sr.getLsbD 0 = false := by
      rw [moveChunk_regs, Tri.get_set_self]
      exact hdch
    simp only [moveLoop]
    split
    · exact hdch
    split
    · rename_i hpicb
      have hends := complete_ends hmoved hpicb
      split
      · rename_i heq
        rwa [heq] at hends
      · rename_i heq
        rw [heq] at hends
        exact ih _ _ hends
    · exact ih _ _ hmoved

theorem transfer_ends {s : State} (hdch : (s.regs.get k).sr.getLsbD 0 = false)
    (hbcis : (s.regs.get k).sr.getLsbD 3 = false) (m : Nat) : EndsAsUnderrunOrRuns k (transfer k m s) := by
  rw [transfer_of_running hdch hbcis]
  refine moveLoop_ends m m _ ?_
  split
  · exact hdch
  · rw [fetchBdle_regs, Tri.get_set_self]
    exact hdch

end

/-- Settles O34: a call that does not start halted ends as `EndsAsUnderrunOrRuns` says, and one that does answers OK. -/
theorem transferEofIffUnderrun : Obligations.TransferEofIffUnderrun := by
  intro k m s t
  cases hdch : (s.regs.get k).sr.getLsbD 0 with
  | true =>
    rw [transfer_of_halted hdch]
    simp
  | false =>
    cases hbcis : (s.regs.get k).sr.getLsbD 3 with
    | true =>
      have hsame : transfer k m s = (s, .ok) := transfer_of_completionPending hbcis m
      have ht : t = s := congrArg Prod.fst hsame
      rw [hsame, ht, hdch]
      simp
    | false =>
      have hends := transfer_ends hdch hbcis m
      have htransfer : transfer k m s = (t, (transfer k m s).2) := rfl
      cases hresult : (transfer k m s).2 with
      | ok =>
        rw [htransfer, hresult] at hends
        have hruns : (t.regs.get k).sr.getLsbD 0 = false := hends
        rw [hruns]
        exact ⟨iff_of_false (by decide) (fun h => absurd h.2 (by decide)), fun h => absurd h (by decide)⟩
      | eof =>
        rw [htransfer, hresult] at hends
        obtain ⟨hsr, hlast, hpicb⟩ := hends
        have hhalted : (t.regs.get k).sr.getLsbD 0 = true := by
          simpa using congrArg (·.getLsbD 0) hsr
        exact ⟨iff_of_true rfl ⟨rfl, hhalted⟩, fun _ => ⟨hsr, hlast, hpicb⟩⟩

/-! ## Calls within the cached descriptor -/

section
variable {k : StreamId} {s : State}

/-- With a valid cache a call is the loop, or nothing where the entry tests stop it. -/
theorem transfer_of_bdValid (h : (s.regs.get k).bdValid = true) (m : Nat) :
    transfer k m s = (s, .ok) ∨ transfer k m s = moveLoop k m m s := by
  cases hdch : (s.regs.get k).sr.getLsbD 0 with
  | true => exact .inl (transfer_of_halted hdch m)
  | false =>
    cases hbcis : (s.regs.get k).sr.getLsbD 3 with
    | true => exact .inl (transfer_of_completionPending hbcis m)
    | false => exact .inr ((transfer_of_running hdch hbcis m).trans (by rw [if_pos h]))

/-- Settles O32: nothing moves with PICB = 0. -/
theorem zeroPositionStalls : Obligations.ZeroPositionStalls := by
  intro k m s hvalid hpicb
  rcases transfer_of_bdValid hvalid m with hsame | hloop
  · exact hsame
  · exact hloop.trans (moveLoop_of_moveSize_zero (moveSize_picb_zero k m s hpicb))

/-- A move of an input writes only its bytes, from the cached address on (R152). -/
theorem moveChunk_guestByte {n : Nat} {a : Nat} (h : ∀ i < n, ((s.regs.get k).bdAddr + BitVec.ofNat 32 i).toNat ≠ a) :
    (moveChunk k n s).guestByte a = s.guestByte a := by
  by_cases hk : k.isOut = true
  · exact guestByte_congr (by rw [moveChunk_mem, if_pos hk]) (moveChunk_cfg k n s) a
  · have hmem : (moveChunk k n s).mem = (memWrite ((s.rt.get k).ring.take n) (s.regs.get k).bdAddr s).mem := by
      rw [moveChunk_mem, if_neg hk]
    rw [guestByte_congr hmem ((moveChunk_cfg k n s).trans (memWrite_cfg _ _ _).symm),
      guestByte_memWrite_outside]
    exact fun i hi => h i (hi.trans_le (List.length_take_le _ _))

theorem moveChunk_picb_toNat {n : Nat} (h : n ≤ 2 * (s.regs.get k).picb.toNat) :
    ((moveChunk k n s).regs.get k).picb.toNat = (s.regs.get k).picb.toNat - n / 2 := by
  have hlt := (s.regs.get k).picb.isLt
  rw [moveChunk_regs_of_le h, Tri.get_set_self, BitVec.toNat_ofNat, Nat.mod_eq_of_lt (by omega)]

theorem moveChunk_bdAddr (n : Nat) :
    ((moveChunk k n s).regs.get k).bdAddr = (s.regs.get k).bdAddr + BitVec.ofNat 32 n := by
  rw [moveChunk_regs, Tri.get_set_self]

theorem complete_cfg (k : StreamId) (s : State) : (complete k s).1.cfg = s.cfg := by
  rcases complete_cases k s with ⟨-, e⟩ | ⟨-, e⟩ <;> rw [e] <;> rfl

/-- A round that exhausts the descriptor and leaves nothing to ask for ends the loop with its completion. -/
theorem moveLoop_of_exhausted {m : Nat} (hn : moveSize k m s ≠ 0)
    (hpicb : ((moveChunk k (moveSize k m s) s).regs.get k).picb = 0) (hm : m - moveSize k m s = 0) :
    moveLoop k m m s = complete k (moveChunk k (moveSize k m s) s) := by
  cases hc : complete k (moveChunk k (moveSize k m s) s) with
  | mk t result =>
    cases result with
    | eof => exact moveLoop_of_eof hn hpicb hc
    | ok =>
      rw [moveLoop_of_ok hn hpicb hc, hm]
      rfl

/-- A loop that asks for no more than the descriptor holds writes only its bytes, from the cached address on: a round
that exhausts the descriptor leaves nothing to ask for. -/
theorem moveLoop_guestByte {a : Nat} (m : Nat) : ∀ s : State, m ≤ 2 * (s.regs.get k).picb.toNat →
    (∀ i < m, ((s.regs.get k).bdAddr + BitVec.ofNat 32 i).toNat ≠ a) →
    (moveLoop k m m s).1.guestByte a = s.guestByte a := by
  induction m using Nat.strong_induction_on with
  | _ m ih =>
    intro s hm h
    by_cases hn : moveSize k m s = 0
    · rw [moveLoop_of_moveSize_zero hn]
    have hle := moveSize_le_remaining k m s
    have hmoved : (moveChunk k (moveSize k m s) s).guestByte a = s.guestByte a :=
      moveChunk_guestByte fun i hi => h i (hi.trans_le hle)
    have hleft := moveChunk_picb_toNat (moveSize_le_picb k m s)
    by_cases hpicb : ((moveChunk k (moveSize k m s) s).regs.get k).picb = 0
    · have hzero : (s.regs.get k).picb.toNat - moveSize k m s / 2 = 0 := by
        rw [← hleft, hpicb]
        rfl
      rw [moveLoop_of_exhausted hn hpicb (by omega), guestByte_congr (complete_mem k _) (complete_cfg k _), hmoved]
    · rw [moveLoop_of_picb_ne_zero hn hpicb, ih _ (by omega) _ (by omega) (fun i hi => ?_), hmoved]
      rw [moveChunk_bdAddr, BitVec.add_assoc, BitVec.ofNat_add_ofNat]
      exact h _ (by omega)

end

/-- Settles O35: an output writes nothing, and within the descriptor an input writes its bytes only. -/
theorem transferMemoryFrame : Obligations.TransferMemoryFrame := by
  intro k m s
  refine ⟨fun hk => transfer_mem_of_output hk m s, fun hvalid hm a h => ?_⟩
  rcases transfer_of_bdValid hvalid m with hsame | hloop
  · rw [hsame]
  · rw [hloop]
    exact moveLoop_guestByte m s hm h

/-- Settles O36: the call is one round of the loop, which moves all `m` bytes and leaves PICB above 0. -/
theorem outputMovesMemoryIntoRing : Obligations.OutputMovesMemoryIntoRing := by
  intro m s hdch hbcis hvalid hm heven hroom hpos
  have hsize : moveSize .po m s = m := by
    have hfree : moveRoom .po (s.rt.get .po) = s.rt.po.ringCap - s.rt.po.ring.length := rfl
    have hpicb : s.regs.get .po = s.regs.po := rfl
    simp only [moveSize, hfree, hpicb]
    omega
  have hleft : ((moveChunk .po m s).regs.get .po).picb.toNat = s.regs.po.picb.toNat - m / 2 :=
    moveChunk_picb_toNat (k := .po) hm.le
  have hpicb : ((moveChunk .po m s).regs.get .po).picb ≠ 0 := fun h => by
    rw [h] at hleft
    have : (0 : Word).toNat = 0 := rfl
    omega
  refine ⟨moveChunk .po m s, ?_, rfl, ?_, moveChunk_bdAddr (k := .po) m, rfl, rfl, rfl⟩
  · have hloop : moveLoop .po m m s = (moveChunk .po m s, .ok) := by
      rw [moveLoop_of_picb_ne_zero (by omega) (by rwa [hsize]), hsize, Nat.sub_self]
      rfl
    rw [transfer_of_running (k := .po) hdch hbcis, if_pos (show (s.regs.get .po).bdValid = true from hvalid), hloop]
  · show ((moveChunk .po m s).regs.get .po).picb.toNat + m / 2 = _
    omega

end Sys2Proof.Machine
end

section
/-!
PROOFS. The scheduler and the host side written out: enable, disable and reopen (R185, R187, R190), the tick (R183,
R189), the host side and the worker (R231, R233), and the acknowledgement of an interrupt (R176, R257).
-/

namespace Sys2Proof.Machine

open Sys2Proof

/-! ## Enable, disable and reopen -/

/-- A close field by field (R187). -/
theorem closeRuntime_eq (p : Platform) (rt : StreamRuntime) :
    closeRuntime p rt =
      { rt with
        armed := false
        ring := []
        enabled := false
        workerEnabled := rt.workerEnabled && !p.asyncMode } := by
  cases hasync : p.asyncMode <;> simp [closeRuntime, hasync, workerDisable]

/-- An open field by field (R185). -/
theorem openRuntime_eq (p : Platform) (k : StreamId) (now : BitVec 64) (rt : StreamRuntime) :
    openRuntime p k now rt =
      { rt with
        ring := []
        ringCap := p.ringCap.get k
        timerHz := timerHzFor p rt.config.rate
        bytesPerTick := bytesPerTickFor rt.config (timerHzFor p rt.config.rate)
        ticksPerPeriod := p.vclockHz / timerHzFor p rt.config.rate
        enabled := true
        deadline := clockAdd now (p.vclockHz / timerHzFor p rt.config.rate)
        armed := true
        workerExists := rt.workerExists || p.asyncMode
        workerEnabled := rt.workerEnabled || p.asyncMode } := by
  cases hasync : p.asyncMode <;>
    simp [openRuntime, hasync, workerEnable, armOnePeriod, withPeriods, ticksPerPeriodFor]

theorem disable_eq (k : StreamId) (s : State) :
    disable k s = { s with
      rt := s.rt.set k (closeRuntime s.cfg (s.rt.get k)), hostLog := .closeStream k :: s.hostLog } := rfl

section
variable {k : StreamId} {s : State}

theorem enable_of_openFailed (hclosed : (s.rt.get k).enabled = false) (hopen : (s.host.get k).openOk = false) :
    enable k s = { s with
      rt := s.rt.set k { s.rt.get k with config := streamConfigOf s.mix k }
      hostLog := .openStream k (streamConfigOf s.mix k) :: s.hostLog } :=
  (if_neg (ne_true_of_eq_false hclosed)).trans (if_neg (ne_true_of_eq_false hopen))

theorem enable_of_openOk (hclosed : (s.rt.get k).enabled = false) (hopen : (s.host.get k).openOk = true) :
    enable k s = { s with
      rt := s.rt.set k (openRuntime s.cfg k s.vnow { s.rt.get k with config := streamConfigOf s.mix k })
      hostLog := .openStream k (streamConfigOf s.mix k) :: s.hostLog } := by
  refine (if_neg (ne_true_of_eq_false hclosed)).trans ((if_pos hopen).trans ?_)
  simp only [State.modRt, State.logHost, Tri.get_set_self, Tri.set_set]

theorem reopen_of_closed (hclosed : (s.rt.get k).enabled = false) : reopen k s = s :=
  if_neg (ne_true_of_eq_false hclosed)

theorem reopen_hostLog_of_openOk (he : (s.rt.get k).enabled = true) (hopen : (s.host.get k).openOk = true) :
    (reopen k s).hostLog = .openStream k (streamConfigOf s.mix k) :: .closeStream k :: s.hostLog := by
  rw [reopen, if_pos he]
  exact congrArg State.hostLog (if_pos hopen)

theorem reopen_hostLog_of_openFailed (he : (s.rt.get k).enabled = true) (hopen : (s.host.get k).openOk = false) :
    (reopen k s).hostLog =
      .closeStream k :: .openStream k (streamConfigOf s.mix k) :: .closeStream k :: s.hostLog := by
  rw [reopen, if_pos he]
  exact congrArg State.hostLog (if_neg (ne_true_of_eq_false hopen))

end

/-- Settles O37: the three cases of `enable`, and `disable`, with the runtime state field by field. -/
theorem enableOpensAndDisableCloses : Obligations.EnableOpensAndDisableCloses := by
  intro k s
  refine ⟨enable_of_enabled, enable_of_openFailed, fun hclosed hopen => ?_, ?_⟩
  · rw [enable_of_openOk hclosed hopen, openRuntime_eq]
  · rw [disable_eq, closeRuntime_eq]

/-- Settles O38: the three cases of `reopen`. -/
theorem reopenRestartsHostStream : Obligations.ReopenRestartsHostStream := by
  intro k s
  refine ⟨reopen_of_closed, fun he hopen => ⟨?_, reopen_hostLog_of_openOk he hopen⟩,
    fun he hopen => ⟨?_, reopen_hostLog_of_openFailed he hopen⟩, reopen_regs k s,
    ⟨reopen_globCnt k s, reopen_globSta k s, reopen_cas k s, reopen_mix k s⟩, reopen_keepsOutside k s,
    reopen_result k s, reopen_draws k s, fun j hj => reopen_rt_get_of_ne hj s⟩
  · rw [reopen_rt, if_pos he, if_pos hopen]
    rfl
  · rw [reopen_rt, if_pos he, if_neg (ne_true_of_eq_false hopen), closeRuntime_eq]

/-! ## The host side and the worker -/

theorem hostSide_po (s : State) :
    hostSide .po s = { s with
      rt := s.rt.set .po (ringPop (min (min (ringUsed (s.rt.get .po)) (s.host.get .po).writable)
        (s.host.get .po).accepts) (s.rt.get .po))
      hostLog := .sinkUpdate .po :: .sinkWrite .po ((s.rt.get .po).ring.take (min (min (ringUsed (s.rt.get .po))
        (s.host.get .po).writable) (s.host.get .po).accepts)) :: s.hostLog } := rfl

section
variable {k : StreamId} {s : State}

theorem hostSide_of_input (hk : k.isOut = false) :
    let bytes := (s.host.get k).supplies.take (min (ringFree (s.rt.get k)) (s.host.get k).readable)
    hostSide k s = { s with
      rt := s.rt.set k (ringPush bytes (s.rt.get k))
      hostLog := .sinkUpdate k :: .sinkRead k bytes :: s.hostLog } :=
  if_neg (ne_true_of_eq_false hk)

theorem isOut_of_ne_po (h : k ≠ .po) : k.isOut = false := by
  cases k
  exacts [rfl, absurd rfl h, rfl]

theorem tickHostSide_of_sync (h : s.cfg.asyncMode = false) : tickHostSide k s = hostSide k s :=
  if_neg (ne_true_of_eq_false h)

theorem tickHostSide_of_async (h : s.cfg.asyncMode = true) :
    tickHostSide k s = s.modRt k fun rt => { rt with workerSignalled := true } := if_pos h

/-- A worker step that is enabled takes the notification, and then exits, runs the host side or does no more (R233). -/
theorem workerStep_of_woken (hasync : s.cfg.asyncMode = true) (hexists : (s.rt.get k).workerExists = true)
    (hwoken : (s.rt.get k).workerSignalled = true ∨ (s.rt.get k).workerShutdown = true) :
    let s1 := s.modRt k fun rt => { rt with workerSignalled := false }
    workerStep k s =
      if (s.rt.get k).workerShutdown then s1.modRt k fun rt => { rt with workerExists := false }
      else if (s.rt.get k).workerEnabled then hostSide k s1 else s1 := by
  have hruns : ((s.rt.get k).workerSignalled || (s.rt.get k).workerShutdown) = true := by
    rwa [Bool.or_eq_true]
  exact if_pos (by rw [hasync, hexists, hruns]; rfl)

theorem workerStep_of_sync (h : s.cfg.asyncMode = false) : workerStep k s = s :=
  if_neg (by rw [h]; exact Bool.false_ne_true)

theorem workerStep_of_idle (h : (s.rt.get k).workerExists = false ∨
    (s.rt.get k).workerSignalled = false ∧ (s.rt.get k).workerShutdown = false) : workerStep k s = s := by
  refine if_neg ?_
  rcases h with hnone | ⟨hquiet, hstays⟩
  · simp [hnone]
  · simp [hquiet, hstays]

end

/-- Settles O41: the host side by direction, and the tick and the worker by mode and flags. -/
theorem hostSideMovesWhatSinkTakes : Obligations.HostSideMovesWhatSinkTakes := by
  intro k s rt a n bytes
  refine ⟨?_, fun hk => hostSide_of_input (isOut_of_ne_po hk),
    fun hsync => ⟨tickHostSide_of_sync hsync, workerStep_of_sync hsync⟩, fun hasync => ?_⟩
  · rintro rfl
    exact hostSide_po s
  intro woken
  refine ⟨tickHostSide_of_async hasync, workerStep_of_idle, fun hexists hexit => ?_, fun hexists hsignal hstays => ?_⟩
  · rw [workerStep_of_woken hasync hexists (.inr hexit), if_pos hexit]
    simp only [State.modRt, Tri.get_set_self, Tri.set_set]
    rfl
  · rw [workerStep_of_woken hasync hexists (.inl hsignal), if_neg (ne_true_of_eq_false hstays)]
    rfl

/-! ## The tick -/

section
variable {k : StreamId} {s : State}

theorem tick_of_due (h : (s.rt.get k).enabled = true ∧ (s.rt.get k).armed = true ∧ (s.rt.get k).deadline ≤ s.vnow) :
    tick k s = rearm k (tickData k s) := if_pos ((tickEnabled_iff k s).2 h)

theorem tick_of_not_due
    (h : ¬((s.rt.get k).enabled = true ∧ (s.rt.get k).armed = true ∧ (s.rt.get k).deadline ≤ s.vnow)) :
    tick k s = s := if_neg (mt (tickEnabled_iff k s).1 h)

/-- Re-arming a tick's timer (R183, R189). -/
theorem rearm_of_active (h : (s.host.get k).active = true) :
    let timed : StreamRuntime := { s.rt.get k with last := s.vnow }
    rearm k s = { s with
      rt := s.rt.set k { timed with deadline := clockAdd s.vnow (nextDelay s.cfg (s.regs.get k) timed) } } := by
  simp only [rearm, h, State.modRt, if_true]

theorem rearm_of_inactive (h : (s.host.get k).active = false) :
    rearm k s = { s with rt := s.rt.set k { s.rt.get k with last := s.vnow, armed := false } } := by
  simp only [rearm, h, State.modRt]
  rfl

theorem hostSide_armed (k : StreamId) (s : State) : ((hostSide k s).rt.get k).armed = (s.rt.get k).armed := by
  rcases hostSide_rt k s with ⟨n, hrt⟩ | ⟨bytes, -, hrt⟩ <;> rw [hrt, Tri.get_set_self] <;> rfl

theorem tickHostSide_armed (k : StreamId) (s : State) : ((tickHostSide k s).rt.get k).armed = (s.rt.get k).armed := by
  unfold tickHostSide
  split
  · rw [State.modRt_rt, Tri.get_set_self]
  · exact hostSide_armed k s

theorem transfer_armed (k : StreamId) (m : Nat) (s : State) :
    ((transfer k m s).1.rt.get k).armed = (s.rt.get k).armed := by
  obtain ⟨ring, hrt⟩ := transfer_rt k m s
  rw [hrt, Tri.get_set_self]

/-- The data of a tick leaves the timer armed or not (R183). -/
theorem tickData_armed (k : StreamId) (s : State) : ((tickData k s).rt.get k).armed = (s.rt.get k).armed := by
  simp only [tickData]
  split
  · rw [tickHostSide_armed, transfer_armed]
  · rw [transfer_armed, tickHostSide_armed]

end

/-- Settles O40: a due tick is `rearm` of `tickData`, and the delay is R189's formula or the platform's. -/
theorem tickRunsAndRearms : Obligations.TickRunsAndRearms := by
  refine ⟨?_, ?_⟩
  · intro k s rt due moved timed delay
    have hmoved : tickData k s = moved := by cases k <;> rfl
    have hvnow : moved.vnow = s.vnow := hmoved ▸ tickData_vnow k s
    have hcfg : moved.cfg = s.cfg := hmoved ▸ tickData_cfg k s
    have hhost : moved.host = s.host := hmoved ▸ tickData_host k s
    refine ⟨tick_of_not_due, fun hdue hactive => ⟨?_, ?_, le_clockAdd s.vnow delay⟩, fun hdue hinactive => ?_⟩
    · rw [tick_of_due hdue, hmoved, rearm_of_active (by rwa [hhost]), hvnow, hcfg]
    · obtain ⟨-, harmed, -⟩ := hdue
      show (moved.rt.get k).armed = true
      rw [← hmoved, tickData_armed, harmed]
    · rw [tick_of_due hdue, hmoved, rearm_of_inactive (by rwa [hhost]), hvnow]
  · intro p r rt b
    refine ⟨fun h => ?_, fun h hb => ?_, fun h hb => ?_⟩
    · rw [nextDelay, h]
      rfl
    · rw [nextDelay, h, if_pos rfl, suggestedDelayFor]
      exact if_pos hb
    · rw [nextDelay, h, if_pos rfl, suggestedDelayFor]
      exact if_neg hb

/-! ## Ticks with a completion pending -/

section
variable {k : StreamId} {s : State}

/-- With BCIS set the data of a tick is the host side alone (R150). -/
theorem tickData_of_completionPending (h : (s.regs.get k).sr.getLsbD 3 = true) : tickData k s = tickHostSide k s := by
  have hsame (m : Nat) {u : State} (hu : u.regs = s.regs) : (transfer k m u).1 = u :=
    congrArg Prod.fst (transfer_of_completionPending (by rwa [hu]) m)
  simp only [tickData, hsame _ rfl, hsame _ (tickHostSide_regs k s), ite_self]

theorem rearm_ring (k : StreamId) (s : State) : ((rearm k s).rt.get k).ring = (s.rt.get k).ring := by
  simp only [rearm, State.modRt_rt, Tri.get_set_self]
  split <;> rfl

/-- The host side of a tick only takes bytes off the front of the output's ring. -/
theorem tickHostSide_ring_po (s : State) :
    ∃ n, ((tickHostSide .po s).rt.get .po).ring = (s.rt.get .po).ring.drop n := by
  cases hasync : s.cfg.asyncMode with
  | true => exact ⟨0, by rw [tickHostSide_of_async hasync, State.modRt_rt, Tri.get_set_self, List.drop_zero]⟩
  | false => exact ⟨_, by rw [tickHostSide_of_sync hasync, hostSide_po, Tri.get_set_self, ringPop]⟩

/-- The host side of a tick only adds bytes to the end of an input's ring. -/
theorem tickHostSide_ring_of_input (hk : k.isOut = false) (s : State) :
    ∃ bytes, ((tickHostSide k s).rt.get k).ring = (s.rt.get k).ring ++ bytes := by
  cases hasync : s.cfg.asyncMode with
  | true => exact ⟨[], by rw [tickHostSide_of_async hasync, State.modRt_rt, Tri.get_set_self, List.append_nil]⟩
  | false => exact ⟨_, by rw [tickHostSide_of_sync hasync, hostSide_of_input hk, Tri.get_set_self, ringPush]⟩

end

/-- Settles O59: a due tick is then `rearm` of `tickHostSide`, and another does nothing. -/
theorem unacknowledgedCompletionStopsTicks : Obligations.UnacknowledgedCompletionStopsTicks := by
  intro k s hbcis rt due t
  by_cases hdue : due
  · have ht : t = rearm k (tickHostSide k s) := by
      rw [← tickData_of_completionPending hbcis]
      exact tick_of_due hdue
    have hring : (t.rt.get k).ring = ((tickHostSide k s).rt.get k).ring := by rw [ht, rearm_ring]
    refine ⟨?_, ⟨?_, ?_, ?_, ?_⟩, ?_, fun _ => hring, fun h => absurd hdue h, ?_, fun hk => ?_⟩
    · rw [ht, rearm_regs, tickHostSide_regs]
    · rw [ht, rearm_globCnt, tickHostSide_globCnt]
    · rw [ht, rearm_globSta, tickHostSide_globSta]
    · rw [ht, rearm_cas, tickHostSide_cas]
    · rw [ht, rearm_mix, tickHostSide_mix]
    · rw [ht, rearm_mem, tickHostSide_mem]
    · rintro rfl
      exact hring ▸ tickHostSide_ring_po s
    · exact hring ▸ tickHostSide_ring_of_input (isOut_of_ne_po hk) s
  · have ht : t = s := tick_of_not_due hdue
    rw [ht]
    exact ⟨rfl, ⟨rfl, rfl, rfl, rfl⟩, rfl, fun h => absurd h hdue, fun _ => rfl, fun _ => ⟨0, rfl⟩,
      fun _ => ⟨[], (List.append_nil _).symm⟩⟩

/-! ## The acknowledgement -/

/-- Clearing the bits of a mask that are set leaves none of them. -/
theorem and_not_and_and {w : Nat} (x m : BitVec w) : (x &&& ~~~(x &&& m)) &&& m = 0#w := by
  refine BitVec.eq_of_getLsbD_eq fun i hi => ?_
  simp only [BitVec.getLsbD_and, BitVec.getLsbD_not, BitVec.getLsbD_zero]
  cases x.getLsbD i <;> cases m.getLsbD i <;> simp

/-- Settles O60: the write clears every interrupt bit, which withdraws the contribution and leaves the others. -/
theorem acknowledgeDropsInterrupt : Obligations.AcknowledgeDropsInterrupt := by
  intro k s hint
  have hclear : srWritten (s.regs.get k).sr (s.regs.get k).sr &&& 0x001C = 0 := by
    rw [srWritten_eq]
    exact and_not_and_and _ _
  have hsta : (writeSr k (s.regs.get k).sr s).globSta = s.globSta &&& ~~~(gsStream k) :=
    contribution_of_cleared k (fun h => hint (h.symm.trans hclear)) hclear _ _
  have hwithdrawn : (writeSr k (s.regs.get k).sr s).globSta &&& gsStream k = 0 := by
    rw [hsta]
    exact and_not_and_self _ _
  refine ⟨_, exec_srWrite k _ s, ?_, hwithdrawn, fun hothers => (inta_eq_false_iff _).2 fun j => ?_⟩
  · rw [writeSr, updateStatus_regs, Tri.get_set_self]
    exact hclear
  · by_cases hj : j = k
    · rw [hj]
      exact hwithdrawn
    · rw [writeSr, updateStatus_globSta, contribution_other j k _ _ _ _ hj]
      exact hothers j hj

end Sys2Proof.Machine
end

section
/-!
PROOFS. The saved record: a load gives back what a save took (R236, R237), and the record's 331 bytes give the record
back (R60, R236).
-/

namespace Sys2Proof.Machine

open Sys2Proof

/-! ## Save and load -/

section
variable {r : SaveRecord} {j k : StreamId} {s : State}

/-- A load's share of one stream writes the runtime state of that stream only. -/
theorem loadStream_rt (r : SaveRecord) (k : StreamId) (s : State) :
    (loadStream r k s).rt = s.rt.set k (if r.enabled.get k then (enable k s).rt.get k else s.rt.get k) := by
  unfold loadStream
  split
  · rw [enable_rt, enable_rt, Tri.get_set_self, reapplyHost_rt, reapplyHost_host, reapplyHost_cfg, reapplyHost_vnow,
      reapplyHost_mix]
  · rw [reapplyHost_rt, Tri.set_get]

theorem loadStream_rt_get_of_ne (h : j ≠ k) : (loadStream r k s).rt.get j = s.rt.get j := by
  rw [loadStream_rt, Tri.get_set_ne _ _ h]

/-- Stream `k` is as a load leaves it: open as the record says where the host's open succeeds, with an empty ring. -/
def LoadedAs (r : SaveRecord) (k : StreamId) (s : State) : Prop :=
  ((s.host.get k).openOk = true → (s.rt.get k).enabled = r.enabled.get k) ∧ (s.rt.get k).ring = []

theorem loadStream_loadedAs (hclosed : (s.rt.get k).enabled = false) (hring : (s.rt.get k).ring = []) :
    LoadedAs r k (loadStream r k s) := by
  rw [LoadedAs, loadStream_host, loadStream_rt, Tri.get_set_self]
  split
  · rename_i henabled
    cases hopen : (s.host.get k).openOk with
    | true =>
      obtain ⟨he, -, hempty, -⟩ := openRuntime_spec s.cfg k s.vnow { s.rt.get k with config := streamConfigOf s.mix k }
      rw [enable_rt_of_openOk hclosed hopen]
      exact ⟨fun _ => he.trans henabled.symm, hempty⟩
    | false =>
      rw [enable_rt_of_openFailed hclosed hopen]
      exact ⟨fun h => absurd h (by decide), hring⟩
  · rename_i hdisabled
    exact ⟨fun _ => hclosed.trans (Bool.eq_false_iff.2 hdisabled).symm, hring⟩

theorem LoadedAs.loadStream_of_ne (hj : j ≠ k) (h : LoadedAs r j s) : LoadedAs r j (loadStream r k s) := by
  rwa [LoadedAs, loadStream_host, loadStream_rt_get_of_ne hj]

/-- A load closes every stream and then opens those that the record marks (R237). -/
theorem loadRecord_loadedAs (r : SaveRecord) (s : State) (k : StreamId) : LoadedAs r k (loadRecord r s) := by
  obtain ⟨hclosed, -, hring, -⟩ := closeRuntime_spec s.cfg (s.rt.get k)
  rw [← disableAll_rt] at hclosed hring
  cases k with
  | pi =>
    refine .loadStream_of_ne (by decide) (.loadStream_of_ne (by decide) (loadStream_loadedAs ?_ ?_))
    exacts [hclosed, hring]
  | po =>
    refine .loadStream_of_ne (by decide) (loadStream_loadedAs ?_ ?_)
    all_goals rw [loadStream_rt_get_of_ne (by decide)]
    exacts [hclosed, hring]
  | mc =>
    refine loadStream_loadedAs ?_ ?_
    all_goals rw [loadStream_rt_get_of_ne (by decide), loadStream_rt_get_of_ne (by decide)]
    exacts [hclosed, hring]

/-- The registers that a load takes from the record. -/
theorem loadRecord_registers (r : SaveRecord) (s : State) :
    (loadRecord r s).regs = r.streams ∧ (loadRecord r s).globCnt = r.globCnt ∧ (loadRecord r s).globSta = r.globSta ∧
      (loadRecord r s).cas = r.cas ∧ (loadRecord r s).mix = r.mix := by
  simp [loadRecord]

end

/-- Settles O42: a load takes every register from the record, and leaves each stream as `LoadedAs` says. -/
theorem saveThenLoadRestoresRegisters : Obligations.SaveThenLoadRestoresRegisters := by
  intro s u t
  obtain ⟨hregs, hcnt, hsta, hcas, hmix⟩ := loadRecord_registers (saveRecord s) u
  have hinta : t.inta = s.inta := congrArg (fun g : Dword => g &&& 0xE0 != 0) hsta
  refine ⟨hregs, hcnt, hsta, hcas, hmix, hinta, fun k => ?_⟩
  obtain ⟨hopen, hring⟩ := loadRecord_loadedAs (saveRecord s) u k
  have henabled : (saveRecord s).enabled.get k = (s.rt.get k).enabled := by cases k <;> rfl
  have hhost : t.host = u.host := by simp [t, loadRecord]
  exact ⟨fun h => (hopen (by rwa [← hhost] at h)).trans henabled, hring⟩

/-! ## Little-endian fields -/

/-- The two bytes of a word, high one first, are the word (R60). -/
theorem word_of_bytes (w : Word) : w.extractLsb' 8 8 ++ w.extractLsb' 0 8 = w :=
  (BitVec.extractLsb'_append_extractLsb'_eq_extractLsb' rfl).trans BitVec.extractLsb'_eq_self

/-- The four bytes of a dword, high one first, are the dword (R60). -/
theorem dword_of_bytes (d : Dword) :
    d.extractLsb' 24 8 ++ d.extractLsb' 16 8 ++ d.extractLsb' 8 8 ++ d.extractLsb' 0 8 = d := by
  rw [BitVec.extractLsb'_append_extractLsb'_eq_extractLsb' (by rfl),
    BitVec.extractLsb'_append_extractLsb'_eq_extractLsb' (by rfl),
    BitVec.extractLsb'_append_extractLsb'_eq_extractLsb' (by rfl)]
  exact BitVec.extractLsb'_eq_self

theorem wordAt_bytes (w : Word) (rest : List Byte) : wordAt (Word.bytes w ++ rest) 0 = w := word_of_bytes w

section
variable (pre l : List Byte) (o : Nat)

theorem byteAt_append : byteAt (pre ++ l) (pre.length + o) = byteAt l o := by
  rw [byteAt, byteAt, List.getD_append_right _ _ _ _ (Nat.le_add_right _ _), Nat.add_sub_cancel_left]

theorem wordAt_append : wordAt (pre ++ l) (pre.length + o) = wordAt l o := by
  rw [wordAt, wordAt, Nat.add_assoc, byteAt_append, byteAt_append]

theorem dwordAt_append : dwordAt (pre ++ l) (pre.length + o) = dwordAt l o := by
  rw [dwordAt, dwordAt, List.drop_length_add_append]

theorem streamOfBytes_append : streamOfBytes (pre ++ l) (pre.length + o) = streamOfBytes l o := by
  simp only [streamOfBytes, Nat.add_assoc, byteAt_append, wordAt_append, dwordAt_append]

end

/-- An index of five bits is kept in the low bits of its byte (R237). -/
theorem index_of_byte (i : BitVec 5) : (i.setWidth 8).setWidth 5 = i := by
  rw [BitVec.setWidth_setWidth_of_le i (by decide), BitVec.setWidth_eq]

theorem flag_of_byte (b : Bool) : (flagByte b != 0) = b ∧ (flagByte b == 1) = b := by
  cases b <;> decide

/-! ## The parts of a record -/

theorem streamBytes_length (r : StreamRegs) : (streamBytes r).length = 21 := rfl

/-- The 21 bytes of a stream give its registers back, whatever follows (R236). -/
theorem streamOfBytes_streamBytes (r : StreamRegs) (rest : List Byte) :
    streamOfBytes (streamBytes r ++ rest) 0 = r := by
  obtain ⟨bdbar, civ, lvi, sr, picb, piv, cr, bdValid, bdAddr, bdCtl⟩ := r
  rw [streamOfBytes, StreamRegs.mk.injEq]
  exact ⟨dword_of_bytes bdbar, index_of_byte civ, index_of_byte lvi, word_of_bytes sr, word_of_bytes picb,
    index_of_byte piv, rfl, (flag_of_byte bdValid).1, dword_of_bytes bdAddr, dword_of_bytes bdCtl⟩

theorem flatMap_bytes_length (l : List Word) : (l.flatMap Word.bytes).length = 2 * l.length := by
  induction l with
  | nil => rfl
  | cons w l ih =>
    rw [List.flatMap_cons, List.length_append, ih, List.length_cons, show (Word.bytes w).length = 2 from rfl]
    omega

theorem bankBytes_length (m : Bank) : (bankBytes m).length = 256 := by
  rw [bankBytes, flatMap_bytes_length, Vector.length_toList]

/-- Word `i` of words laid out one after the other (R60, R195). -/
theorem wordAt_flatMap_bytes (rest : List Byte) (l : List Word) : ∀ (i : Nat) (h : i < l.length),
    wordAt (l.flatMap Word.bytes ++ rest) (2 * i) = l[i] := by
  induction l with
  | nil => exact fun _ h => absurd h (Nat.not_lt_zero _)
  | cons w l ih =>
    intro i h
    rw [List.flatMap_cons, List.append_assoc]
    cases i with
    | zero => exact wordAt_bytes w _
    | succ i =>
      have hnext := wordAt_append (Word.bytes w) (l.flatMap Word.bytes ++ rest) (2 * i)
      rw [show (Word.bytes w).length + 2 * i = 2 * (i + 1) by rw [show (Word.bytes w).length = 2 from rfl]; omega]
        at hnext
      rw [hnext, ih i (Nat.lt_of_succ_lt_succ h)]
      rfl

/-- The bytes of the codec bank give the bank back, whatever follows (R195, R236). -/
theorem bank_of_bytes (m : Bank) (rest : List Byte) :
    (Vector.ofFn fun i => wordAt (bankBytes m ++ rest) (2 * i.val)) = m := by
  refine Vector.ext fun i hi => ?_
  rw [Vector.getElem_ofFn]
  exact wordAt_flatMap_bytes rest m.toList i (by rwa [Vector.length_toList])

/-! ## The record -/

/-- The globals' bytes of a record: the first nine. -/
def globalBytes (r : SaveRecord) : List Byte :=
  Dword.bytes r.globCnt ++ Dword.bytes r.globSta ++ [r.cas.setWidth 8]

/-- The enable flags' bytes of a record: the last three. -/
def enabledBytes (r : SaveRecord) : List Byte :=
  [flagByte r.enabled.pi, flagByte r.enabled.po, flagByte r.enabled.mc]

theorem recordBytes_eq (r : SaveRecord) :
    recordBytes r = globalBytes r ++ (streamBytes r.streams.pi ++ (streamBytes r.streams.po ++
      (streamBytes r.streams.mc ++ (bankBytes r.mix ++ enabledBytes r)))) := by
  simp only [recordBytes, globalBytes, enabledBytes, List.append_assoc]

theorem recordBytes_length (r : SaveRecord) : (recordBytes r).length = 331 := by
  rw [recordBytes_eq]
  simp only [List.length_append, streamBytes_length, bankBytes_length]
  rfl

/-- The three streams' registers start at bytes 9, 30 and 51. -/
theorem streamOfBytes_recordBytes (r : SaveRecord) :
    streamOfBytes (recordBytes r) 9 = r.streams.pi ∧ streamOfBytes (recordBytes r) 30 = r.streams.po ∧
      streamOfBytes (recordBytes r) 51 = r.streams.mc := by
  rw [recordBytes_eq]
  refine ⟨(streamOfBytes_append (globalBytes r) _ 0).trans (streamOfBytes_streamBytes _ _), ?_, ?_⟩
  · exact (streamOfBytes_append (globalBytes r) _ 21).trans
      ((streamOfBytes_append (streamBytes r.streams.pi) _ 0).trans (streamOfBytes_streamBytes _ _))
  · exact (streamOfBytes_append (globalBytes r) _ 42).trans
      ((streamOfBytes_append (streamBytes r.streams.pi) _ 21).trans
        ((streamOfBytes_append (streamBytes r.streams.po) _ 0).trans (streamOfBytes_streamBytes _ _)))

/-- The codec bank starts at byte 72. -/
theorem wordAt_recordBytes (r : SaveRecord) (o : Nat) :
    wordAt (recordBytes r) (72 + o) = wordAt (bankBytes r.mix ++ enabledBytes r) o := by
  have hoffset : 72 + o = (globalBytes r).length + ((streamBytes r.streams.pi).length +
      ((streamBytes r.streams.po).length + ((streamBytes r.streams.mc).length + o))) := by
    rw [show (globalBytes r).length = 9 from rfl]
    simp only [streamBytes_length]
    omega
  rw [recordBytes_eq, hoffset, wordAt_append, wordAt_append, wordAt_append, wordAt_append]

/-- The enable flags start at byte 328. -/
theorem byteAt_recordBytes (r : SaveRecord) (o : Nat) :
    byteAt (recordBytes r) (328 + o) = byteAt (enabledBytes r) o := by
  have hoffset : 328 + o = (globalBytes r).length + ((streamBytes r.streams.pi).length +
      ((streamBytes r.streams.po).length + ((streamBytes r.streams.mc).length + ((bankBytes r.mix).length + o)))) := by
    rw [show (globalBytes r).length = 9 from rfl, bankBytes_length]
    simp only [streamBytes_length]
    omega
  rw [recordBytes_eq, hoffset, byteAt_append, byteAt_append, byteAt_append, byteAt_append, byteAt_append]

/-- Settles O43: each part of the record is read back from where it was laid out. -/
theorem recordBytesRoundTrip : Obligations.RecordBytesRoundTrip := by
  intro r
  refine ⟨recordBytes_length r, (if_pos (recordBytes_length r)).trans (congrArg some ?_)⟩
  obtain ⟨hpi, hpo, hmc⟩ := streamOfBytes_recordBytes r
  have hbank : (Vector.ofFn fun i => wordAt (recordBytes r) (72 + 2 * i.val)) = r.mix := by
    simp only [wordAt_recordBytes]
    exact bank_of_bytes r.mix (enabledBytes r)
  have hcas : (byteAt (recordBytes r) 8).setWidth 1 = r.cas := by
    show (r.cas.setWidth 8).setWidth 1 = r.cas
    rw [BitVec.setWidth_setWidth_of_le r.cas (by decide), BitVec.setWidth_eq]
  have hpiOn : (byteAt (recordBytes r) 328 == 1) = r.enabled.pi :=
    (byteAt_recordBytes r 0).symm ▸ (flag_of_byte r.enabled.pi).2
  have hpoOn : (byteAt (recordBytes r) 329 == 1) = r.enabled.po :=
    (byteAt_recordBytes r 1).symm ▸ (flag_of_byte r.enabled.po).2
  have hmcOn : (byteAt (recordBytes r) 330 == 1) = r.enabled.mc :=
    (byteAt_recordBytes r 2).symm ▸ (flag_of_byte r.enabled.mc).2
  rw [hpi, hpo, hmc, hbank, hcas, hpiOn, hpoOn, hmcOn, show dwordAt (recordBytes r) 0 = r.globCnt from dword_of_bytes _,
    show dwordAt (recordBytes r) 4 = r.globSta from dword_of_bytes _]

end Sys2Proof.Machine
end
